-- ==== Sys2Proof/Word.lean ====
section
/-! DEFINITION. The plain types every file of the model shares: the text of a card field and a timer. -/

namespace Sys2Proof

/-- A run of characters: a card field, a name, a label line (spec/01, Card form). -/
abbrev Text := List Char

/-- A timer that counts down. `none` is stopped, `some n` runs with `n` units of time left (`Config.ms`). -/
abbrev Timer := Option Nat

/-- The text of a Lean string literal. -/
abbrev txt (s : String) : Text := s.toList

end Sys2Proof
end

