-- ==== Sys2Proof/Config.lean ====
section
/-! DEFINITION. What the part fixes for good (capacities, limits) and the model's one free value. -/

namespace Sys2Proof.Config

/-- The text of a number key in an OK or AN reply, when the console wrote the number otherwise than in
plain decimal. The spec says the echo is "as the characters received" for NO alone (R8), so this text is
open: a free value of the text received and the number it stands for. Log 1. -/
opaque freeKeyText : Text → Int → Text

/-- The unit of time is 1/655,360,000 of a second: the coarsest in which a tenth of a millisecond, the finest unit in which
the spec states a time, and a tick of either time base (R60) are whole numbers. Log 2. These are a tenth of a millisecond, -/
abbrev tenth : Nat := 65536
/-- a millisecond -/
abbrev ms : Nat := 655360
/-- and a second, in units of time. -/
abbrev second : Nat := 655360000
/-- Places in the transmit queue (R9). -/
abbrev txPlaces : Nat := 16
/-- Places in the receive buffer (R6). -/
abbrev rxPlaces : Nat := 256
/-- The count at which a card under assembly is discarded (R5). -/
abbrev longCount : Nat := 161
/-- Slots of the slip store (R41, R42). -/
abbrev storeSlots : Nat := 96
/-- Entries of the completion list (R55). -/
abbrev endedPlaces : Nat := 32
/-- The top of each refusal counter (R57). -/
abbrev refusalTop : Nat := 65535
/-- Records the frame map holds at most (R153). -/
abbrev mapPlaces : Nat := 2048
/-- Places in the label spool (R173). -/
abbrev spoolPlaces : Nat := 16
/-- The number of values of the measurement counter (R63). -/
abbrev countSpan : Nat := 16777216
/-- The time-base tick at which a reference phase overruns (R64). -/
abbrev overrunTick : Nat := 1048576
/-- The top of a final balance (R197). -/
abbrev finalTop : Nat := 999999999

end Sys2Proof.Config
end

