-- ==== Sys2Proof/Syntax.lean ====
section
/-! DEFINITION. The commands the part takes: one constructor of `Instr` per row of spec/opcode_table.json. -/

namespace Sys2Proof

/-- The five switch inputs of the stand (spec/07, The stand inputs). -/
inductive Input where
  | door | gate | rollEnd | mark | pause
deriving DecidableEq, Repr

/-- The two pulse inputs of the light meter (R59). -/
inductive Probe where
  | lamp | gate
deriving DecidableEq, Repr

/-- The two speeds of the order line (R1). -/
inductive LineSpeed where
  | b9600 | b19200
deriving DecidableEq, Repr

/-- What the order line receives: a character of eight bits, or one whose stop bit is at the space level (R1). -/
inductive LineChar where
  | code (c : BitVec 8)
  | framingError
deriving DecidableEq, Repr

/-- One command per row of the table. A card row carries the texts of its fields as the console wrote them,
so that every FIELD refusal is a meaning. A TB row's fields are the index and then the entry fields; a QY
row's arguments are what follows the subject word (for QY TABLE, the table name and the index). -/
inductive Instr where
  | orderLineCharacterReceived (c : LineChar)
  | assemblerTakeCharacter
  | cardRefusedCheckOrKind (failed : Bool) (kind : Text) (fields : List Text) (check : Text)
  | sl (fields : List Text)
  | cn (fields : List Text)
  | tbStand (fields : List Text)
  | tbQueue (fields : List Text)
  | tbMeter (fields : List Text)
  | tbStock (fields : List Text)
  | tbPattern (fields : List Text)
  | tbFormat (fields : List Text)
  | tbAccount (fields : List Text)
  | tbRate (fields : List Text)
  | md (fields : List Text)
  | cb (fields : List Text)
  | rl (fields : List Text)
  | ul (fields : List Text)
  | rt (fields : List Text)
  | dr (fields : List Text)
  | kp (fields : List Text)
  | rs (fields : List Text)
  | cl (fields : List Text)
  | se (fields : List Text)
  | qyMode (args : List Text)
  | qyCurrent (args : List Text)
  | qyQueue (args : List Text)
  | qySlip (args : List Text)
  | qyRoll (args : List Text)
  | qyFrames (args : List Text)
  | qyAccount (args : List Text)
  | qyCounters (args : List Text)
  | qyInputs (args : List Text)
  | qyEnded (args : List Text)
  | qyEvents (args : List Text)
  | qyTable (args : List Text)
  | qyTableDensity (args : List Text)
  | qyTableBracket (args : List Text)
  | transmitCardSent
  | reportDelayExpiry
  | lineReset
  | standPowerUp (strap : LineSpeed)
  | retentionLatchCleared
  | probePulse (p : Probe)
  | referencePhaseEnd
  | referenceOverrun
  | gatePhaseEnd
  | gateOverrun
  | warmUpExpiry
  | guardExpiry
  | coolDownExpiry
  | exposureTimerExpiry
  | rawLevelChange (i : Input) (active : Bool)
  | debounceExpiry (i : Input)
  | advanceEnd
  | advanceTimerExpiry
  | labelSent
  | printerAnswerA
  | printerAnswerB
  | printerAnswerS
  | printerAnswerJ
  | printerAnswerR
  | retryTimerExpiry
  | printerTimeoutExpiry
deriving DecidableEq, Repr

end Sys2Proof
end

