-- ==== Sys2Proof/Machine/State.lean ====
section
/-! DEFINITION. The state of the CS40, block by block as spec/00_scope.md's block diagram names them, all plain
data; the ways a step can stop; and the state after reset. -/

namespace Sys2Proof.Machine

/-! ### Line interface (spec/01) -/

/-- The 22 event flags, in report order (spec/01, Event flags). -/
inductive Flag where
  | original | remove | ended | endedLost | refused | mode | pause | roll | jam | door | lamp | meter | cal
  | guard | clamp | account | map | printer | stockOut | closed | start | cell
deriving DecidableEq, Repr

/-- All 22 flags in report order. -/
def Flag.all : List Flag :=
  [.original, .remove, .ended, .endedLost, .refused, .mode, .pause, .roll, .jam, .door, .lamp, .meter, .cal,
   .guard, .clamp, .account, .map, .printer, .stockOut, .closed, .start, .cell]

/-- An outgoing card: its kind and its fields (R8, R10). `cardText` gives its characters. -/
structure Card where
  kind : Text
  fields : List Text
deriving DecidableEq, Repr

/-- The states of the card assembler (spec/01, The card assembler). -/
inductive AsmState where
  | hunt | kind | body | check
deriving DecidableEq, Repr

/-- The card assembler with the card under assembly. In BODY the last of `fields` is the field being read. -/
structure Assembler where
  state : AsmState
  kind : Text
  fields : List Text
  check : Text
  count : Nat
  failed : Bool
deriving DecidableEq, Repr

/-- The assembler in HUNT, with no card under assembly. -/
def Assembler.hunting : Assembler :=
  { state := .hunt, kind := [], fields := [], check := [], count := 0, failed := false }

/-- A character in the receive buffer, with its gap mark (R6). -/
structure RxChar where
  char : Char
  gap : Bool
deriving DecidableEq, Repr

/-- The states of the event report (spec/01, The event report). -/
inductive ReportState where
  | none | delaying | due
deriving DecidableEq, Repr

/-- The line interface. `flags` lists the set flags in report order. -/
structure LineState where
  speed : LineSpeed
  rx : List RxChar
  lost : Bool
  asm : Assembler
  tx : List Card
  pfWaiting : Option Card
  report : ReportState
  reportTimer : Timer
  flags : List Flag
deriving DecidableEq, Repr

/-! ### Mode control (spec/02) -/

/-- The four modes. -/
inductive Mode where
  | setup | run | proof | hold
deriving DecidableEq, Repr

/-- The pending-change state. -/
inductive PendingChange where
  | none | boundary | cal
deriving DecidableEq, Repr

/-- Mode control's three items (R21). -/
structure Modes where
  requested : Mode
  current : Mode
  change : PendingChange
deriving DecidableEq, Repr

/-- RISE is a line becoming active, FALL becoming inactive (spec/07, The stand inputs). -/
inductive EdgeKind where
  | rise | fall
deriving DecidableEq, Repr

/-- An event edge setting (R31, R131). -/
inductive EventEdge where
  | rise | fall | both | none
deriving DecidableEq, Repr

/-- The STAND entry (R31), each field in the unit written on the card. -/
structure StandEntry where
  reportDelay : Nat
  enables : List Flag
  date : Text
  guardUnit : Nat
  guardLimit : Nat
  coolDown : Nat
  advanceTimeout : Nat
  markEdge : EdgeKind
  printerTimeout : Nat
  doorEdge : EventEdge
  gateEdge : EventEdge
  rollEndEdge : EventEdge
  pauseEdge : EventEdge
deriving DecidableEq, Repr

/-! ### Queue manager (spec/03) -/

/-- A slip record (spec/03, The slip record). -/
structure Slip where
  number : Nat
  account : Fin 64
  queue : Fin 8
  catalog : Text
  title : Option Text
  copies : Nat
  stock : Fin 8
  pattern : Fin 16
  format : Fin 8
  density : Option Nat
  cancelPending : Bool
deriving DecidableEq, Repr

/-- An entry of the queue table (R41). -/
structure QueueEntry where
  capacity : Nat
  paused : Bool
deriving DecidableEq, Repr

/-- A queue's ring in the slip store (R42): its slips, oldest first, and the slot of the oldest. -/
structure Ring where
  slips : List Slip
  head : Nat
deriving DecidableEq, Repr

/-- How a slip ended (spec/03, The completion list). -/
inductive Ending where
  | done | short | guardShort | proofed | cancelled | flushed
deriving DecidableEq, Repr

/-- An entry of the completion list (R54). -/
structure Completion where
  slip : Nat
  ending : Ending
  made : Nat
  incomplete : Nat
deriving DecidableEq, Repr

/-- The queue manager. -/
structure Store where
  table : Vector QueueEntry 8
  rings : Vector Ring 8
  overflowed : Vector Bool 8
  ended : List Completion
  unknownAccount : Nat
  queueFull : Nat
deriving DecidableEq, Repr

/-! ### Light meter (spec/04) -/

/-- The time base: 32,768 Hz or 1,048,576 Hz (R60). -/
inductive TimeBase where
  | slow | fast
deriving DecidableEq, Repr

/-- The METER entry (R60). -/
structure MeterEntry where
  refCount : Nat
  cal : Nat
  base : TimeBase
  warmUp : Nat
deriving DecidableEq, Repr

/-- The meter phase. -/
inductive MeterPhase where
  | idle | reference | gate
deriving DecidableEq, Repr

/-- Who uses the lamp or the meter. -/
inductive User where
  | sequencer | calibration
deriving DecidableEq, Repr

/-- A metering in flight: its user, with R, c and the time base as read at its start (R62). -/
structure MeterJob where
  user : User
  refCount : Nat
  cal : Nat
  base : TimeBase
deriving DecidableEq, Repr

/-- The light meter. The meter user is NONE when `job` is absent. -/
structure Meter where
  entry : MeterEntry
  count : Nat
  timeBase : Int
  phase : MeterPhase
  job : Option MeterJob
  lastRef : Nat
  calibrating : Bool
deriving DecidableEq, Repr

/-! ### Exposure calculator (spec/05) -/

/-- A stock's kind of film (R84). -/
inductive StockKind where
  | colour | mono
deriving DecidableEq, Repr

/-- A stock entry (R84). -/
structure StockEntry where
  name : Text
  base : Nat
  knee : Nat
  slope : Nat
  kind : StockKind
  tag : Text
deriving DecidableEq, Repr

/-- The two tables of the exposure calculator that the console writes. -/
structure Tables where
  stock : Vector StockEntry 8
  pattern : Vector (List Int) 16
deriving DecidableEq, Repr

/-- A factor mark (R77). -/
inductive FactorMark where
  | over | under
deriving DecidableEq, Repr

/-- The exposure factor with its mark, if any (R76, R77). -/
structure Factor where
  f256 : Nat
  mark : Option FactorMark
deriving DecidableEq, Repr

/-- The marks of a frame or a proof step. -/
structure Marks where
  overdense : Bool
  underdense : Bool
  clampLow : Bool
  clampHigh : Bool
  clampGuard : Bool
deriving DecidableEq, Repr

/-- A step's time, in tenths of a millisecond, and its marks (R90). -/
structure StepTime where
  time : Nat
  marks : Marks
deriving DecidableEq, Repr

/-! ### Copy sequencer (spec/06) -/

/-- The nine states of the sequencer. -/
inductive SeqState where
  | idle | removal | loading | warming | metering | setReady | exposing | advancing | proving
deriving DecidableEq, Repr

/-- The six wait causes. -/
inductive WaitCause where
  | roll | transport | map | account | stock | lamp
deriving DecidableEq, Repr

/-- The current slip with its slip context (R92). -/
structure Current where
  slip : Slip
  copy : Nat
  made : Nat
  incomplete : Nat
  factor : Factor
  metered : Bool
  fresh : Bool
deriving DecidableEq, Repr

/-- The set context (spec/06, The set context). `again` is the context's "repeat". -/
structure SetCtx where
  stock : StockEntry
  pattern : List Int
  times : List StepTime
  frameFee : Nat
  copyFee : Nat
  step : Nat
  head : Option Nat
  again : Bool
deriving DecidableEq, Repr

/-- The sequencer (R92). The wait cause NONE is `none`. -/
structure Seq where
  state : SeqState
  wait : Option WaitCause
  slip : Option Current
  set : Option SetCtx
deriving DecidableEq, Repr

/-! ### Lamp, shutter and inputs (spec/07) -/

/-- The lamp state. -/
inductive LampState where
  | off | warming | lit | cooling
deriving DecidableEq, Repr

/-- The lamp controller. `lit` is the lit time in units of time (log 2); the counter of the spec is its whole
milliseconds (`litMs`). -/
structure Lamp where
  state : LampState
  user : Option User
  waiting : Option User
  lit : Nat
  warmUp : Timer
  coolDown : Timer
deriving DecidableEq, Repr

/-- The shutter controller: OPEN or CLOSED and the exposure timer. -/
structure Shutter where
  opened : Bool
  timer : Timer
deriving DecidableEq, Repr

/-- One switch input: levels (active is true), debounce timer, edge-seen mark. -/
structure InputLine where
  raw : Bool
  debounced : Bool
  timer : Timer
  edgeSeen : Bool
deriving DecidableEq, Repr

/-- The five inputs. -/
structure Inputs where
  door : InputLine
  gate : InputLine
  rollEnd : InputLine
  mark : InputLine
  pause : InputLine
deriving DecidableEq, Repr

/-! ### Film transport and roll table (spec/08) -/

/-- The kind of an advance. -/
inductive AdvanceKind where
  | leader | frame
deriving DecidableEq, Repr

/-- The transport state with its cause. SUSPENDED(SENSOR) and FAULT(JAM) carry the failed kind. -/
inductive FilmState where
  | noRoll | loading | ready | advancing
  | suspFrames | suspSensor (failed : AdvanceKind) | suspLost
  | faultJam (failed : AdvanceKind) | faultDoor
deriving DecidableEq, Repr

/-- An advance in flight: its kind, the mark edge it reads, and the units of time left on its timer. -/
structure Advance where
  kind : AdvanceKind
  edge : EdgeKind
  left : Nat
deriving DecidableEq, Repr

/-- The state of a slot that is not EMPTY. The label cursor is present in MOUNTING only (R134). -/
inductive RollState where
  | camera | away | returned | mounting (cursor : Nat)
deriving DecidableEq, Repr

/-- A roll in a slot (R134). -/
structure Roll where
  state : RollState
  number : Nat
  stock : Fin 8
  capacity : Nat
  next : Nat
  fogged : Bool
deriving DecidableEq, Repr

/-- The transport and the roll table. A slot with no roll is EMPTY. `told` is what R106 has the transport tell the
sequencer, kept while no roll stands at a frame: it is read in NO_ROLL and LOADING alone, and is on when the camera roll last
left in FAULT(DOOR) or in a TRANSPORT wait (log 27). -/
structure Film where
  state : FilmState
  flight : Option Advance
  rolls : Vector (Option Roll) 4
  order : List (Fin 4)
  told : Bool
deriving DecidableEq, Repr

/-! ### Frame map (spec/09) -/

/-- What became of an exposure. -/
inductive FrameKind where
  | exposing | exposed | spoiled | fogged
deriving DecidableEq, Repr

/-- Whether a frame is to be mounted. -/
inductive Decision where
  | undecided | keep | discard
deriving DecidableEq, Repr

/-- How far a frame's label has gone. -/
inductive LabelState where
  | none | spooled | printed
deriving DecidableEq, Repr

/-- Where a frame's fee stands. -/
inductive ChargeState where
  | none | provisional | reversed
deriving DecidableEq, Repr

/-- How a set stands. -/
inductive SetStatus where
  | opened | complete | incomplete
deriving DecidableEq, Repr

/-- The set head data (R154). -/
structure SetHead where
  status : SetStatus
  catalog : Text
  title : Option Text
  format : Fin 8
  tag : Text
  copyFee : Nat
deriving DecidableEq, Repr

/-- A frame record (R153); `data` is present on a set head record (R154). -/
structure Record where
  slot : Fin 4
  frame : Nat
  kind : FrameKind
  slip : Nat
  account : Fin 64
  copy : Nat
  copies : Nat
  head : Nat
  step : Nat
  bracket : Int
  time : Nat
  marks : Marks
  fee : Nat
  decision : Decision
  label : LabelState
  charge : ChargeState
  data : Option SetHead
deriving DecidableEq, Repr

/-! ### Labels (spec/10) -/

/-- An item of a label line (R170). -/
inductive Item where
  | catalog | title | accountName | date | rollFrame | copy | stockTag | text (t : Text)
deriving DecidableEq, Repr

/-- A format entry: a width and one to four lines of items (R170). -/
structure FormatEntry where
  width : Nat
  lines : List (List Item)
deriving DecidableEq, Repr

/-- A spool entry (R173); its line count is the number of its lines. -/
structure SpoolEntry where
  slot : Fin 4
  frame : Nat
  lines : List Text
deriving DecidableEq, Repr

/-- Why the printer is STOPPED. -/
inductive StopCause where
  | stock | jam | silent
deriving DecidableEq, Repr

/-- The printer state (R176). SENT is `sending` until the label's last CR has gone, then `sent`. -/
inductive PrinterState where
  | ready | sending | sent | retry | stopped (cause : StopCause)
deriving DecidableEq, Repr

/-- The label spool. `sending` holds the characters of the label on the label line. -/
structure Labels where
  formats : Vector FormatEntry 8
  spool : List SpoolEntry
  printer : PrinterState
  sending : Text
  timeout : Timer
  retry : Timer
  feedHold : Bool
deriving DecidableEq, Repr

/-! ### Charge unit (spec/11) -/

/-- The state of an account. -/
inductive AccountState where
  | free | opened | closed
deriving DecidableEq, Repr

/-- An account entry (R185). -/
structure Account where
  code : Option Text
  name : Text
  rateClass : Fin 4
  ceiling : Nat
  state : AccountState
  provisional : Nat
  final : Nat
  saturated : Bool
deriving DecidableEq, Repr

/-- A rate entry (R190). -/
structure RateEntry where
  frameFee : Nat
  copyFee : Nat
deriving DecidableEq, Repr

/-- The charge unit. -/
structure Money where
  accounts : Vector Account 64
  rates : Vector RateEntry 4
deriving DecidableEq, Repr

/-! ### The whole machine -/

/-- The state of the part. `clock` and `pending` are the model's own: the free-running clock's place within a
second, in units of time (log 2), and the commands that wait, first in, first out. -/
structure State where
  line : LineState
  modes : Modes
  stand : StandEntry
  latch : Bool
  store : Store
  meter : Meter
  tables : Tables
  seq : Seq
  lamp : Lamp
  shutter : Shutter
  inputs : Inputs
  film : Film
  records : List Record
  labels : Labels
  money : Money
  clock : Nat
  pending : List Instr
deriving DecidableEq, Repr

/-- Why the part stops with a fault. It has no constructor: the spec names no stop, every error is a reply, an
event flag or a state of a block. Nothing raises it, which is neither safe nor unsafe: no difference. -/
inductive Fault where
deriving DecidableEq, Repr

/-- Why the model gives a command no meaning. -/
inductive Refusal where
  /-- Raised by an arm of `exec` for a row of the table that has no meaning yet; safe. No arm raises it. -/
  | notModelled (mnemonic : String)
deriving DecidableEq, Repr

/-! ### The values of each block at a cell start and at a stand power-up -/

/-- The STAND entry's defaults (R31). -/
def StandEntry.default : StandEntry :=
  { reportDelay := 0, enables := Flag.all, date := List.replicate 8 ' ', guardUnit := 1, guardLimit := 120,
    coolDown := 60, advanceTimeout := 1500, markEdge := .rise, printerTimeout := 50, doorEdge := .rise,
    gateEdge := .both, rollEndEdge := .rise, pauseEdge := .rise }

/-- The queue table's cell-start values (R41). -/
def queueTableDefault : Vector QueueEntry 8 :=
  #v[⟨24, false⟩, ⟨24, false⟩, ⟨16, false⟩, ⟨16, false⟩, ⟨16, false⟩, ⟨0, false⟩, ⟨0, false⟩, ⟨0, false⟩]

/-- The METER entry's defaults (R60). -/
def MeterEntry.default : MeterEntry := { refCount := 65536, cal := 16384, base := .slow, warmUp := 50 }

/-- An undefined stock entry, as entries 2 to 7 are at a cell start (R86). -/
def StockEntry.blank : StockEntry :=
  { name := List.replicate 6 ' ', base := 0, knee := 0, slope := 256, kind := .colour, tag := [] }

/-- The stock table's cell-start values (R86). -/
def stockDefault : Vector StockEntry 8 :=
  #v[{ name := txt "COL100", base := 250, knee := 10000, slope := 320, kind := .colour, tag := txt "C" },
     { name := txt "MONO50", base := 400, knee := 10000, slope := 384, kind := .mono, tag := txt "M" },
     .blank, .blank, .blank, .blank, .blank, .blank]

/-- The bracket pattern table's cell-start values (R83). -/
def patternDefault : Vector (List Int) 16 :=
  #v[[0], [-1, 0, 1], [-3, 0, 3], [0], [0], [0], [0], [0], [0], [0], [0], [0], [0], [0], [0], [0]]

/-- The format entry every index holds at a cell start (R170). -/
def FormatEntry.default : FormatEntry :=
  { width := 24, lines := [[.catalog, .copy], [.title], [.accountName, .date]] }

/-- A FREE account, as every entry is at a cell start (R185). -/
def Account.blank : Account :=
  { code := none, name := List.replicate 16 ' ', rateClass := 0, ceiling := 0, state := .free,
    provisional := 0, final := 0, saturated := false }

/-- The charge unit at a cell start (R185, R190). -/
def Money.default : Money :=
  { accounts := Vector.replicate 64 .blank, rates := Vector.replicate 4 ⟨0, 0⟩ }

/-- The sequencer at a stand power-up (R116). -/
def Seq.fresh : Seq := { state := .idle, wait := none, slip := none, set := none }

/-- An input whose raw level is inactive, at a stand power-up (R133). -/
def InputLine.inactive : InputLine := { raw := false, debounced := false, timer := none, edgeSeen := false }

/-- The machine just after a stand power-up that is a cell start (R29, R30), every block as its chapter says:
START and CELL are set and, with all flags enabled and a report delay of 0, the EV card that names them is in
the transmit queue (R14, R15, R20). The strap's speed and the inputs' raw levels are the board's: log 4. -/
def State.reset : State :=
  { line :=
      { speed := .b9600, rx := [], lost := false, asm := .hunting,
        tx := [{ kind := txt "EV", fields := [txt "START", txt "CELL"] }], pfWaiting := none,
        report := .none, reportTimer := none, flags := [.start, .cell] }
    modes := { requested := .setup, current := .setup, change := .none }
    stand := .default
    latch := true
    store :=
      { table := queueTableDefault,
        rings := #v[⟨[], 0⟩, ⟨[], 24⟩, ⟨[], 48⟩, ⟨[], 64⟩, ⟨[], 80⟩, ⟨[], 96⟩, ⟨[], 96⟩, ⟨[], 96⟩],
        overflowed := Vector.replicate 8 false, ended := [], unknownAccount := 0, queueFull := 0 }
    meter :=
      { entry := .default, count := 0, timeBase := 0, phase := .idle, job := none, lastRef := 0,
        calibrating := false }
    tables := { stock := stockDefault, pattern := patternDefault }
    seq := .fresh
    lamp := { state := .cooling, user := none, waiting := none, lit := 0, warmUp := none, coolDown := some (60000 * Config.ms) }
    shutter := { opened := false, timer := none }
    inputs := { door := .inactive, gate := .inactive, rollEnd := .inactive, mark := .inactive, pause := .inactive }
    film := { state := .noRoll, flight := none, rolls := Vector.replicate 4 none, order := [], told := false }
    records := []
    labels :=
      { formats := Vector.replicate 8 .default, spool := [], printer := .ready, sending := [], timeout := none,
        retry := none, feedHold := true }
    money := .default
    clock := 0
    pending := [] }

end Sys2Proof.Machine
end

