-- ==== Sys2Proof/Machine/Texts.lean ====
section
/-! DEFINITION. The words and numbers of cards: how the part writes them and how it reads them (spec/01, Card
form, R2, R3), and the characters of a card it sends. -/

namespace Sys2Proof.Machine

/-! ### Numbers -/

/-- A number written in digits alone. -/
def dec (n : Nat) : Text := Nat.toDigits 10 n

/-- A bracket step: `+` before a positive step, 0 bare, `-` before a negative one (R82, R113, R167). -/
def stepText (s : Int) : Text :=
  if s < 0 then '-' :: dec s.natAbs else if s = 0 then dec 0 else '+' :: dec s.natAbs

/-- A decimal digit. -/
def isDigit (c : Char) : Bool := decide ('0'.toNat ≤ c.toNat) && decide (c.toNat ≤ '9'.toNat)

/-- A printable character: codes 32 to 126 (spec/01, Card form). -/
def isPrintable (c : Char) : Bool := decide (32 ≤ c.toNat) && decide (c.toNat ≤ 126)

/-- The value of 1 to 10 digits (R3). -/
def digitsValue (t : Text) : Option Nat :=
  if t = [] ∨ 10 < t.length ∨ t.all isDigit = false then none
  else some (t.foldl (fun a c => 10 * a + (c.toNat - '0'.toNat)) 0)

/-- The value of a number field: an optional sign followed by 1 to 10 digits (R3). -/
def numberValue : Text → Option Int
  | '+' :: ds => (digitsValue ds).map Int.ofNat
  | '-' :: ds => (digitsValue ds).map (fun n => - (Int.ofNat n))
  | ds => (digitsValue ds).map Int.ofNat

/-- A number field in the range `lo` to `hi`; none when malformed or out of range (R3). -/
def intField (lo hi : Int) (t : Text) : Option Int :=
  (numberValue t).bind fun v => if lo ≤ v ∧ v ≤ hi then some v else none

/-- A number field with a range of non-negative numbers. -/
def natField (lo hi : Nat) (t : Text) : Option Nat := (intField lo hi t).map Int.toNat

/-- A number field that indexes a table of `n` entries, counting from 0. -/
def finField (n : Nat) (t : Text) : Option (Fin n) :=
  (natField 0 (n - 1) t).bind fun k => if h : k < n then some ⟨k, h⟩ else none

/-- The key text of a number in an OK or AN reply: the number in plain decimal when it was received so, and
otherwise a free value (R8 states the echo for NO alone). Log 1. -/
def numberKey (received : Text) (value : Int) (plain : Text) : Text :=
  if received = plain then plain else Config.freeKeyText received value

/-- The key of a non-negative number. -/
def natKey (received : Text) (n : Nat) : Text := numberKey received n (dec n)

/-! ### Texts -/

/-- A text padded on the right with spaces to `n` characters. -/
def padRight (n : Nat) (t : Text) : Text := t ++ List.replicate (n - t.length) ' '

/-- A text less its trailing spaces. -/
def trimRight (t : Text) : Text := (t.reverse.dropWhile (· = ' ')).reverse

/-- The runs of a text between occurrences of `c`. -/
def splitAtChar (c : Char) : Text → List Text
  | [] => [[]]
  | x :: xs =>
    match splitAtChar c xs with
    | [] => [[x]]
    | y :: ys => if x = c then [] :: y :: ys else (x :: y) :: ys

/-- Texts joined with one space between each two. -/
def joinSpaces : List Text → Text
  | [] => []
  | [t] => t
  | t :: ts => t ++ ' ' :: joinSpaces ts

/-- A text of at least `lo` and at most `hi` characters. -/
def textField (lo hi : Nat) (t : Text) : Option Text := if lo ≤ t.length ∧ t.length ≤ hi then some t else none

/-- A word, or nothing: an answer field that shows a mark. -/
def wordIf (b : Bool) (w : Text) : Text := if b then w else []

/-- An optional text, absent as the empty field. -/
def optText : Option Text → Text
  | some t => t
  | none => []

/-! ### Words -/

/-- The name of an event flag (spec/01, Event flags). -/
def flagWord : Flag → Text
  | .original => txt "ORIGINAL" | .remove => txt "REMOVE" | .ended => txt "ENDED"
  | .endedLost => txt "ENDED_LOST" | .refused => txt "REFUSED" | .mode => txt "MODE" | .pause => txt "PAUSE"
  | .roll => txt "ROLL" | .jam => txt "JAM" | .door => txt "DOOR" | .lamp => txt "LAMP" | .meter => txt "METER"
  | .cal => txt "CAL" | .guard => txt "GUARD" | .clamp => txt "CLAMP" | .account => txt "ACCOUNT"
  | .map => txt "MAP" | .printer => txt "PRINTER" | .stockOut => txt "STOCK_OUT" | .closed => txt "CLOSED"
  | .start => txt "START" | .cell => txt "CELL"

/-- The flag a name names. -/
def flagOf (t : Text) : Option Flag := Flag.all.find? fun f => flagWord f = t

/-- The word of a mode (R21, R22). -/
def modeWord : Mode → Text
  | .setup => txt "SETUP" | .run => txt "RUN" | .proof => txt "PROOF" | .hold => txt "HOLD"

/-- The mode a word names. -/
def modeOf (t : Text) : Option Mode := [Mode.setup, .run, .proof, .hold].find? fun m => modeWord m = t

/-- The word of a pending-change state (R21). -/
def changeWord : PendingChange → Text
  | .none => txt "NONE" | .boundary => txt "BOUNDARY" | .cal => txt "CAL"

/-- The word of a report state (R18). -/
def reportWord : ReportState → Text
  | .none => txt "NONE" | .delaying => txt "DELAYING" | .due => txt "DUE"

/-- YES or NO. -/
def yesNo (b : Bool) : Text := if b then txt "YES" else txt "NO"

/-- Reads YES or NO. -/
def yesNoOf (t : Text) : Option Bool := if t = txt "YES" then some true else if t = txt "NO" then some false else none

/-- The word of a mark edge (R31). -/
def edgeWord : EdgeKind → Text
  | .rise => txt "RISE" | .fall => txt "FALL"

/-- Reads a mark edge. -/
def edgeOf (t : Text) : Option EdgeKind := [EdgeKind.rise, .fall].find? fun e => edgeWord e = t

/-- The word of an event edge (R31). -/
def eventEdgeWord : EventEdge → Text
  | .rise => txt "RISE" | .fall => txt "FALL" | .both => txt "BOTH" | .none => txt "NONE"

/-- Reads an event edge. -/
def eventEdgeOf (t : Text) : Option EventEdge :=
  [EventEdge.rise, .fall, .both, .none].find? fun e => eventEdgeWord e = t

/-- The word of a slip's outcome (spec/03, The completion list). -/
def endingWord : Ending → Text
  | .done => txt "DONE" | .short => txt "SHORT" | .guardShort => txt "GUARD_SHORT" | .proofed => txt "PROOFED"
  | .cancelled => txt "CANCELLED" | .flushed => txt "FLUSHED"

/-- The word of a time base (R60). -/
def timeBaseWord : TimeBase → Text
  | .slow => txt "SLOW" | .fast => txt "FAST"

/-- Reads a time base. -/
def timeBaseOf (t : Text) : Option TimeBase := [TimeBase.slow, .fast].find? fun b => timeBaseWord b = t

/-- The word of a film kind (R84). -/
def stockKindWord : StockKind → Text
  | .colour => txt "COLOUR" | .mono => txt "MONO"

/-- Reads a film kind. -/
def stockKindOf (t : Text) : Option StockKind := [StockKind.colour, .mono].find? fun k => stockKindWord k = t

/-- The word of a sequencer state (R115). -/
def seqStateWord : SeqState → Text
  | .idle => txt "IDLE" | .removal => txt "REMOVAL" | .loading => txt "LOADING" | .warming => txt "WARMING"
  | .metering => txt "METERING" | .setReady => txt "SET_READY" | .exposing => txt "EXPOSING"
  | .advancing => txt "ADVANCING" | .proving => txt "PROVING"

/-- The word of a wait cause; empty when NONE (R115). -/
def waitWord : Option WaitCause → Text
  | none => [] | some .roll => txt "ROLL" | some .transport => txt "TRANSPORT" | some .map => txt "MAP"
  | some .account => txt "ACCOUNT" | some .stock => txt "STOCK" | some .lamp => txt "LAMP"

/-- The transport state word (R136). -/
def filmWord : FilmState → Text
  | .noRoll => txt "NO_ROLL" | .loading => txt "LOADING" | .ready => txt "READY" | .advancing => txt "ADVANCING"
  | .suspFrames => txt "SUSPENDED" | .suspSensor _ => txt "SUSPENDED" | .suspLost => txt "SUSPENDED"
  | .faultJam _ => txt "FAULT" | .faultDoor => txt "FAULT"

/-- The transport cause word; empty where the state has none (R136). -/
def filmCauseWord : FilmState → Text
  | .suspFrames => txt "FRAMES" | .suspSensor _ => txt "SENSOR" | .suspLost => txt "LOST"
  | .faultJam _ => txt "JAM" | .faultDoor => txt "DOOR"
  | .noRoll => [] | .loading => [] | .ready => [] | .advancing => []

/-- The slot state word (R136). -/
def rollStateWord : RollState → Text
  | .camera => txt "CAMERA" | .away => txt "AWAY" | .returned => txt "RETURNED" | .mounting _ => txt "MOUNTING"

/-- The words of a record's fields (R167). -/
def frameKindWord : FrameKind → Text
  | .exposing => txt "EXPOSING" | .exposed => txt "EXPOSED" | .spoiled => txt "SPOILED" | .fogged => txt "FOGGED"

/-- The word of a decision. -/
def decisionWord : Decision → Text
  | .undecided => txt "UNDECIDED" | .keep => txt "KEEP" | .discard => txt "DISCARD"

/-- The word of a label state. -/
def labelStateWord : LabelState → Text
  | .none => txt "NONE" | .spooled => txt "SPOOLED" | .printed => txt "PRINTED"

/-- The word of a charge state. -/
def chargeWord : ChargeState → Text
  | .none => txt "NONE" | .provisional => txt "PROVISIONAL" | .reversed => txt "REVERSED"

/-- The word of a set status. -/
def statusWord : SetStatus → Text
  | .opened => txt "OPEN" | .complete => txt "COMPLETE" | .incomplete => txt "INCOMPLETE"

/-- The word of an account state (R186). -/
def accountStateWord : AccountState → Text
  | .free => txt "FREE" | .opened => txt "OPEN" | .closed => txt "CLOSED"

/-- Reads an account state. -/
def accountStateOf (t : Text) : Option AccountState :=
  [AccountState.free, .opened, .closed].find? fun a => accountStateWord a = t

/-- A level as QY INPUTS writes it (R132). -/
def levelWord (active : Bool) : Text := if active then txt "ACTIVE" else txt "INACTIVE"

/-- A step's marks separated by single spaces, in the order of R167; empty when none. -/
def marksText (m : Marks) : Text :=
  joinSpaces
    ((if m.overdense then [txt "OVERDENSE"] else []) ++ (if m.underdense then [txt "UNDERDENSE"] else [])
      ++ (if m.clampLow then [txt "CLAMP_LOW"] else []) ++ (if m.clampHigh then [txt "CLAMP_HIGH"] else [])
      ++ (if m.clampGuard then [txt "CLAMP_GUARD"] else []))

/-- The reasons of a NO card (R8). -/
inductive Reason where
  | check | long | kind | field | mode | duplicate | account | full | queue | room | busy | slot | state | late
  | unknown
deriving DecidableEq, Repr

/-- The word of a reason. -/
def reasonWord : Reason → Text
  | .check => txt "CHECK" | .long => txt "LONG" | .kind => txt "KIND" | .field => txt "FIELD" | .mode => txt "MODE"
  | .duplicate => txt "DUPLICATE" | .account => txt "ACCOUNT" | .full => txt "FULL" | .queue => txt "QUEUE"
  | .room => txt "ROOM" | .busy => txt "BUSY" | .slot => txt "SLOT" | .state => txt "STATE" | .late => txt "LATE"
  | .unknown => txt "UNKNOWN"

/-! ### Cards as characters -/

/-- The characters the check sums: from the first kind letter through the last character of the last field (R2). -/
def checkedText (kind : Text) (fields : List Text) : Text := kind ++ fields.flatMap fun f => '|' :: f

/-- The check of a card: the sum of the character codes, modulo 256 (R2). -/
def checkSum (kind : Text) (fields : List Text) : Nat := ((checkedText kind fields).map Char.toNat).sum % 256

/-- An uppercase hexadecimal digit. -/
def hexDigit (n : Nat) : Char := ("0123456789ABCDEF".toList).getD n '0'

/-- The two check characters, high digit first (R2). -/
def checkText (kind : Text) (fields : List Text) : Text :=
  [hexDigit (checkSum kind fields / 16), hexDigit (checkSum kind fields % 16)]

/-- A card's characters on the line, from `<` to `>` (spec/01, Card form, R10). -/
def cardText (c : Card) : Text :=
  '<' :: checkedText c.kind c.fields ++ '*' :: checkText c.kind c.fields ++ ['>']

end Sys2Proof.Machine
end

