-- ==== Sys2Proof/Machine/Operands.lean ====
section
/-! DEFINITION. Every operand form of the cards: how the fields of each card are read, with the ranges and the
malformed forms of each entry (R3, R11, and the owning chapters). `none` is the FIELD refusal. -/

namespace Sys2Proof.Machine

/-! ### Fields shared by several entries -/

/-- An entry field of a TB card: an empty field keeps its present value (R11). -/
def keepOr {α : Type} (read : Text → Option α) (present : α) (t : Text) : Option α :=
  if t = [] then some present else read t

/-- A capital letter A–Z. -/
def isCapital (c : Char) : Bool := decide ('A'.toNat ≤ c.toNat) && decide (c.toNat ≤ 'Z'.toNat)

/-- An account code: exactly four characters, each A–Z or 0–9 (R34, R186, R198). In QY ACCOUNT any other text is refused FIELD
too (DEDUCED, log 29). -/
def codeField (t : Text) : Option Text :=
  if t.length = 4 ∧ t.all (fun c => isCapital c || isDigit c) = true then some t else none

/-! ### STAND (R31) -/

/-- A flag name with a leading `-` (R31). -/
def minusFlag : Text → Option Flag
  | '-' :: name => flagOf name
  | _ => none

/-- The flags every word names, or none when a word names none. -/
def flagList (read : Text → Option Flag) : List Text → Option (List Flag)
  | [] => some []
  | w :: ws => (read w).bind fun f => (flagList read ws).map fun fs => f :: fs

/-- The event enables: ALL, NONE, flag names, or ALL followed by `-` names, separated by single spaces (R31). -/
def enablesField (t : Text) : Option (List Flag) :=
  match splitAtChar ' ' t with
  | [] => none
  | w :: ws =>
    if w = txt "ALL" then (flagList minusFlag ws).map fun off => Flag.all.filter fun f => !off.contains f
    else if w = txt "NONE" ∧ ws = [] then some []
    else (flagList flagOf (w :: ws)).map fun on => Flag.all.filter fun f => on.contains f

/-- The date text: 1 to 8 characters, padded to 8 (R31). -/
def dateField (t : Text) : Option Text := (textField 1 8 t).map (padRight 8)

/-- The guard unit: 1 or 10 (R31). -/
def guardUnitField (t : Text) : Option Nat := (natField 1 10 t).bind fun n => if n = 1 ∨ n = 10 then some n else none

/-- The STAND entry as it would stand after a write of thirteen fields (R11, R31). -/
def standFields (p : StandEntry) : List Text → Option StandEntry
  | [f1, f2, f3, f4, f5, f6, f7, f8, f9, f10, f11, f12, f13] => do
    let reportDelay ← keepOr (natField 0 255) p.reportDelay f1
    let enables ← keepOr enablesField p.enables f2
    let date ← keepOr dateField p.date f3
    let guardUnit ← keepOr guardUnitField p.guardUnit f4
    let guardLimit ← keepOr (natField 1 255) p.guardLimit f5
    let coolDown ← keepOr (natField 0 255) p.coolDown f6
    let advanceTimeout ← keepOr (natField 100 5000) p.advanceTimeout f7
    let markEdge ← keepOr edgeOf p.markEdge f8
    let printerTimeout ← keepOr (natField 5 255) p.printerTimeout f9
    let doorEdge ← keepOr eventEdgeOf p.doorEdge f10
    let gateEdge ← keepOr eventEdgeOf p.gateEdge f11
    let rollEndEdge ← keepOr eventEdgeOf p.rollEndEdge f12
    let pauseEdge ← keepOr eventEdgeOf p.pauseEdge f13
    some { reportDelay, enables, date, guardUnit, guardLimit, coolDown, advanceTimeout, markEdge, printerTimeout,
           doorEdge, gateEdge, rollEndEdge, pauseEdge }
  | _ => none

/-- The event enables as a QY answer writes them (R31). -/
def enablesText (on : List Flag) : Text :=
  let off := Flag.all.filter fun f => !on.contains f
  if off = [] then txt "ALL"
  else if on = [] then txt "NONE"
  else joinSpaces (txt "ALL" :: off.map fun f => '-' :: flagWord f)

/-- The STAND entry's fields, in TB order (R31). -/
def standTexts (p : StandEntry) : List Text :=
  [dec p.reportDelay, enablesText p.enables, p.date, dec p.guardUnit, dec p.guardLimit, dec p.coolDown,
   dec p.advanceTimeout, edgeWord p.markEdge, dec p.printerTimeout, eventEdgeWord p.doorEdge,
   eventEdgeWord p.gateEdge, eventEdgeWord p.rollEndEdge, eventEdgeWord p.pauseEdge]

/-! ### QUEUE (R41) -/

/-- The queue entry as it would stand after a write. -/
def queueFields (p : QueueEntry) : List Text → Option QueueEntry
  | [f1, f2] => do
    let capacity ← keepOr (natField 0 32) p.capacity f1
    let paused ← keepOr yesNoOf p.paused f2
    some { capacity, paused }
  | _ => none

/-- The queue entry's fields, in TB order. -/
def queueTexts (p : QueueEntry) : List Text := [dec p.capacity, yesNo p.paused]

/-! ### METER (R60) -/

/-- The METER entry as it would stand after a write. -/
def meterFields (p : MeterEntry) : List Text → Option MeterEntry
  | [f1, f2, f3, f4] => do
    let refCount ← keepOr (natField 4096 4194304) p.refCount f1
    let cal ← keepOr (natField 8192 65535) p.cal f2
    let base ← keepOr timeBaseOf p.base f3
    let warmUp ← keepOr (natField 0 255) p.warmUp f4
    some { refCount, cal, base, warmUp }
  | _ => none

/-- The METER entry's fields, in TB order. -/
def meterTexts (p : MeterEntry) : List Text := [dec p.refCount, dec p.cal, timeBaseWord p.base, dec p.warmUp]

/-! ### STOCK (R84) -/

/-- The stock entry as it would stand after a write. -/
def stockFields (p : StockEntry) : List Text → Option StockEntry
  | [f1, f2, f3, f4, f5, f6] => do
    let name ← keepOr (fun t => (textField 1 6 t).map (padRight 6)) p.name f1
    let base ← keepOr (natField 0 65535) p.base f2
    let knee ← keepOr (natField 0 65535) p.knee f3
    let slope ← keepOr (natField 256 1024) p.slope f4
    let kind ← keepOr stockKindOf p.kind f5
    let tag ← keepOr (fun t => (textField 1 3 t).map trimRight) p.tag f6
    some { name, base, knee, slope, kind, tag }
  | _ => none

/-- The stock entry's fields, in TB order. -/
def stockTexts (p : StockEntry) : List Text :=
  [p.name, dec p.base, dec p.knee, dec p.slope, stockKindWord p.kind, p.tag]

/-! ### PATTERN (R82) -/

/-- The numbers every word spells in a range, or none when a word spells none. -/
def intList (lo hi : Int) : List Text → Option (List Int)
  | [] => some []
  | w :: ws => (intField lo hi w).bind fun s => (intList lo hi ws).map fun ss => s :: ss

/-- A step list: 1 to 7 steps −6 to +6 separated by single spaces, no step twice (R82). -/
def patternField (t : Text) : Option (List Int) :=
  (intList (-6) 6 (splitAtChar ' ' t)).bind fun ss => if ss.length ≤ 7 ∧ ss.Nodup then some ss else none

/-- The pattern entry as it would stand after a write. -/
def patternFields (p : List Int) : List Text → Option (List Int)
  | [f1] => keepOr patternField p f1
  | _ => none

/-- The pattern entry's field. -/
def patternTexts (p : List Int) : List Text := [joinSpaces (p.map stepText)]

/-! ### FORMAT (R170) -/

/-- An item word (R170). -/
def itemField (t : Text) : Option Item :=
  if t = txt "CATALOG" then some .catalog
  else if t = txt "TITLE" then some .title
  else if t = txt "ACCOUNT_NAME" then some .accountName
  else if t = txt "DATE" then some .date
  else if t = txt "ROLL_FRAME" then some .rollFrame
  else if t = txt "COPY" then some .copy
  else if t = txt "STOCK_TAG" then some .stockTag
  else if t.take 5 = txt "TEXT=" then (textField 1 8 (t.drop 5)).map .text
  else none

/-- An item as it is written. -/
def itemText : Item → Text
  | .catalog => txt "CATALOG" | .title => txt "TITLE" | .accountName => txt "ACCOUNT_NAME" | .date => txt "DATE"
  | .rollFrame => txt "ROLL_FRAME" | .copy => txt "COPY" | .stockTag => txt "STOCK_TAG"
  | .text t => txt "TEXT=" ++ t

/-- The items every word names, or none when a word names none. -/
def itemList : List Text → Option (List Item)
  | [] => some []
  | w :: ws => (itemField w).bind fun i => (itemList ws).map fun is => i :: is

/-- A line field: NONE, or one to three items (R170). -/
def lineField (t : Text) : Option (Option (List Item)) :=
  if t = txt "NONE" then some none
  else (itemList (splitAtChar ' ' t)).bind fun is => if is.length ≤ 3 then some (some is) else none

/-- The four line fields as lines, refused when line 1 is NONE or a line follows a NONE (R170). -/
def lineRun : List (Option (List Item)) → Option (List (List Item))
  | some a :: rest =>
    if rest.dropWhile Option.isSome |>.any Option.isSome then none else some (a :: (rest.filterMap id))
  | _ => none

/-- The format entry as it would stand after a write. -/
def formatFields (p : FormatEntry) : List Text → Option FormatEntry
  | [f1, f2, f3, f4, f5] => do
    let width ← keepOr (natField 12 32) p.width f1
    let l1 ← keepOr lineField p.lines[0]? f2
    let l2 ← keepOr lineField p.lines[1]? f3
    let l3 ← keepOr lineField p.lines[2]? f4
    let l4 ← keepOr lineField p.lines[3]? f5
    let lines ← lineRun [l1, l2, l3, l4]
    some { width, lines }
  | _ => none

/-- A line of a format as a QY answer writes it. -/
def lineText : Option (List Item) → Text
  | none => txt "NONE"
  | some is => joinSpaces (is.map itemText)

/-- The format entry's fields, in TB order. -/
def formatTexts (p : FormatEntry) : List Text :=
  [dec p.width, lineText p.lines[0]?, lineText p.lines[1]?, lineText p.lines[2]?, lineText p.lines[3]?]

/-! ### ACCOUNT and RATE (R186, R190) -/

/-- The account entry as it would stand after a write; its balances and mark are kept (R186). -/
def accountFields (p : Account) : List Text → Option Account
  | [f1, f2, f3, f4, f5] => do
    let code ← keepOr (fun t => (codeField t).map some) p.code f1
    let name ← keepOr (fun t => (textField 1 16 t).map (padRight 16)) p.name f2
    let rateClass ← keepOr (finField 4) p.rateClass f3
    let ceiling ← keepOr (natField 0 999999999) p.ceiling f4
    let state ← keepOr accountStateOf p.state f5
    some { p with code, name, rateClass, ceiling, state }
  | _ => none

/-- The account entry's fields in TB order, then the balances and the saturated mark (R199). -/
def accountTexts (p : Account) : List Text :=
  [optText p.code, p.name, dec p.rateClass, dec p.ceiling, accountStateWord p.state, dec p.provisional,
   dec p.final, wordIf p.saturated (txt "SATURATED")]

/-- The rate entry as it would stand after a write (R190). -/
def rateFields (p : RateEntry) : List Text → Option RateEntry
  | [f1, f2] => do
    let frameFee ← keepOr (natField 0 9999) p.frameFee f1
    let copyFee ← keepOr (natField 0 9999) p.copyFee f2
    some { frameFee, copyFee }
  | _ => none

/-- The rate entry's fields, in TB order. -/
def rateTexts (p : RateEntry) : List Text := [dec p.frameFee, dec p.copyFee]

/-! ### SL (R34, R35) -/

/-- The fields of an SL card. -/
structure SlipFields where
  number : Nat
  code : Text
  queue : Fin 8
  catalog : Text
  title : Option Text
  copies : Nat
  stock : Fin 8
  pattern : Fin 16
  format : Fin 8
  density : Option Nat
deriving DecidableEq, Repr

/-- An optional field: empty is absent (R3). -/
def absentOr {α : Type} (read : Text → Option α) (t : Text) : Option (Option α) :=
  if t = [] then some none else (read t).map some

/-- The ten fields of an SL card, or nine with the density left off (R34, R35). -/
def slipFields : List Text → Option SlipFields
  | f1 :: f2 :: f3 :: f4 :: f5 :: f6 :: f7 :: f8 :: f9 :: rest => do
    let number ← natField 1 65535 f1
    let code ← codeField f2
    let queue ← finField 8 f3
    let catalog ← textField 1 12 f4
    let title ← absentOr (textField 0 40) f5
    let copies ← natField 1 9 f6
    let stock ← finField 8 f7
    let pattern ← finField 16 f8
    let format ← finField 8 f9
    let density ← match rest with
      | [] => some none
      | [f10] => absentOr (natField 0 400) f10
      | _ => none
    some { number, code, queue, catalog, title, copies, stock, pattern, format, density }
  | _ => none

/-! ### The other cards -/

/-- A card of one field. -/
def oneField {α : Type} (read : Text → Option α) : List Text → Option α
  | [f] => read f
  | _ => none

/-- The fields of an RL card: roll number, stock code, capacity (R139). -/
def rollFields : List Text → Option (Nat × Fin 8 × Nat)
  | [f1, f2, f3] => do
    let number ← natField 1 9999 f1
    let stock ← finField 8 f2
    let capacity ← natField 20 800 f3
    some (number, stock, capacity)
  | _ => none

/-- The fields of a KP card: roll number, frame number, KEEP (true) or NONE (false) (R161). -/
def keepFields : List Text → Option (Nat × Nat × Bool)
  | [f1, f2, f3] => do
    let number ← natField 1 9999 f1
    let frame ← natField 1 800 f2
    let keep ← if f3 = txt "KEEP" then some true else if f3 = txt "NONE" then some false else none
    some (number, frame, keep)
  | _ => none

/-- The flags of a CL card: one or more names, or ALL alone (R17). -/
def clearFields (fields : List Text) : Option (List Flag) :=
  if fields = [txt "ALL"] then some Flag.all
  else if fields = [] then none
  else flagList flagOf fields

/-- The arguments of QY FRAMES: roll number, from and to, from ≤ to (R12). -/
def framesArgs : List Text → Option (Nat × Nat × Nat)
  | [f1, f2, f3] => do
    let number ← natField 1 9999 f1
    let lo ← natField 1 800 f2
    let hi ← natField 1 800 f3
    if lo ≤ hi then some (number, lo, hi) else none
  | _ => none

/-- The first `n` texts of a list, with the empty text for each that was not received (R8). -/
def keyTexts (n : Nat) (fields : List Text) : List Text := (List.range n).map fun i => fields.getD i []

end Sys2Proof.Machine
end

