-- ==== Sys2Proof/Machine/Flags.lean ====
section
/-! DEFINITION. An event in progress, the named updates of each block, and the event flags with their report
(R13 to R16). -/

namespace Sys2Proof.Machine

/-! ### An event in progress

A command is one event (spec/00, Events and their order). While it runs, some of what it sets in motion is due
"at the end of the event"; these marks say what. They are no state: an event begins with none and ends with
none (log 10). -/

/-- The state within an event, with what is still to be done in it:
- `step`: the present step of a set goes on at R101;
- `go`: the sequencer goes on from SET_READY (R95, R107, R111, R123);
- `wake`: something changed that a waiting set start reads (R98);
- `arb`: the arbiter runs at the end (R47);
- `ring`: the report delay was loaded with 0 and has expired (R14). -/
structure Event extends State where
  step : Bool := false
  go : Bool := false
  wake : Bool := false
  arb : Bool := false
  ring : Bool := false

/-- An event begins on a state. -/
def State.begin (s : State) : Event := { toState := s }

/-- The event with its line interface replaced. -/
def Event.setLine (e : Event) (x : LineState) : Event := { e with line := x }
/-- The event with its modes replaced. -/
def Event.setModes (e : Event) (x : Modes) : Event := { e with modes := x }
/-- The event with its STAND entry replaced. -/
def Event.setStand (e : Event) (x : StandEntry) : Event := { e with stand := x }
/-- The event with its queue manager replaced. -/
def Event.setStore (e : Event) (x : Store) : Event := { e with store := x }
/-- The event with its meter replaced. -/
def Event.setMeter (e : Event) (x : Meter) : Event := { e with meter := x }
/-- The event with its exposure tables replaced. -/
def Event.setTables (e : Event) (x : Tables) : Event := { e with tables := x }
/-- The event with its sequencer replaced. -/
def Event.setSeq (e : Event) (x : Seq) : Event := { e with seq := x }
/-- The event with its lamp replaced. -/
def Event.setLamp (e : Event) (x : Lamp) : Event := { e with lamp := x }
/-- The event with its shutter replaced. -/
def Event.setShutter (e : Event) (x : Shutter) : Event := { e with shutter := x }
/-- The event with its inputs replaced. -/
def Event.setInputs (e : Event) (x : Inputs) : Event := { e with inputs := x }
/-- The event with its transport and roll table replaced: a change a waiting set start reads (R98, R138). The start and the
withdrawal of a leader advance, which leave the state LOADING, count as such a change too, so that a wait evaluated again
then may show another cause (DEDUCED, log 28). -/
def Event.setFilm (e : Event) (x : Film) : Event := { e with film := x, wake := true }
/-- The event with its frame map replaced. -/
def Event.setRecords (e : Event) (x : List Record) : Event := { e with records := x }
/-- The event with its label spool replaced. -/
def Event.setLabels (e : Event) (x : Labels) : Event := { e with labels := x }
/-- The event with its charge unit replaced. -/
def Event.setMoney (e : Event) (x : Money) : Event := { e with money := x }

/-- Something changed that a waiting set start reads (R98). -/
def Event.woken (e : Event) : Event := { e with wake := true }
/-- The arbiter is due at the end of the event (R47). -/
def Event.arbiterDue (e : Event) : Event := { e with arb := true }
/-- The sequencer goes on from SET_READY within the event. -/
def Event.goOn (e : Event) : Event := { e with go := true }

/-! ### Event flags -/

/-- A set of flags with one more, in report order. -/
def addFlag (f : Flag) (fs : List Flag) : List Flag := Flag.all.filter fun g => decide (g = f) || fs.contains g

/-- A block sets an event flag (R13). A clear-to-set change of an enabled flag while the report is NONE loads
and starts the report delay (R14); a delay of 0 expires at once. -/
def setFlag (f : Flag) (e : Event) : Event :=
  if e.line.flags.contains f then e
  else if e.stand.enables.contains f ∧ e.line.report = .none then
    { e with
      line := { e.line with flags := addFlag f e.line.flags, report := .delaying,
                            reportTimer := some (e.stand.reportDelay * 10 * Config.ms) },
      ring := e.ring || decide (e.stand.reportDelay = 0) }
  else e.setLine { e.line with flags := addFlag f e.line.flags }

/-- The flag is set if the condition holds, otherwise unchanged. -/
def setFlagIf (b : Bool) (f : Flag) (e : Event) : Event := if b then setFlag f e else e

/-- The cleared flags leave the set; the report state is unchanged (R17). -/
def clearFlags (fs : List Flag) (e : Event) : Event :=
  e.setLine { e.line with flags := e.line.flags.filter fun f => !fs.contains f }

/-! ### Cards going out -/

/-- The transmit queue has a free place (R9). -/
def txFree (s : State) : Bool := decide (s.line.tx.length < Config.txPlaces)

/-- A card joins the transmit queue (R9). -/
def enqueueCard (c : Card) (e : Event) : Event := e.setLine { e.line with tx := e.line.tx ++ [c] }

/-- An OK reply: the kind answered, then its key fields (R8). -/
def replyOk (kind : Text) (key : List Text) (e : Event) : Event :=
  enqueueCard { kind := txt "OK", fields := kind :: key } e

/-- A NO reply: the kind answered, its key fields as received, then the reason (R8). -/
def replyNo (kind : Text) (key : List Text) (r : Reason) (e : Event) : Event :=
  enqueueCard { kind := txt "NO", fields := kind :: key ++ [reasonWord r] } e

/-- An AN reply: the kind answered, its key fields, then the answer fields (R8). -/
def replyAn (kind : Text) (key answer : List Text) (e : Event) : Event :=
  enqueueCard { kind := txt "AN", fields := kind :: key ++ answer } e

/-! ### The report -/

/-- The EV card of a set of flags (R15). -/
def evCard (fs : List Flag) : Card := { kind := txt "EV", fields := fs.map flagWord }

/-- A DUE report with a free place builds its EV card and becomes NONE; with no flag set no card is built (R15). After a line
reset a PF card may still wait outside a queue with free places; the EV card then enters ahead of it (log 9). -/
def buildReport (e : Event) : Event :=
  if e.line.report = .due ∧ txFree e.toState = true then
    if e.line.flags = [] then e.setLine { e.line with report := .none }
    else e.setLine { e.line with report := .none, tx := e.line.tx ++ [evCard e.line.flags] }
  else e

/-- The report delay timer expires: the report becomes DUE, and is built when a place is free (R15). -/
def reportDelayEnds (e : Event) : Event :=
  if e.line.report = .delaying then buildReport (e.setLine { e.line with report := .due, reportTimer := none })
  else e

/-! ### The completion list -/

/-- An entry joins the completion list (R55): ENDED is set, and if the list held 32 entries the oldest is
removed and ENDED_LOST is set too. -/
def appendEnded (c : Completion) (e : Event) : Event :=
  let full := decide (Config.endedPlaces ≤ e.store.ended.length)
  let kept := if full then e.store.ended.drop 1 else e.store.ended
  setFlagIf full .endedLost (setFlag .ended (e.setStore { e.store with ended := kept ++ [c] }))

end Sys2Proof.Machine
end

