-- ==== Sys2Proof/Machine/Exposure.lean ====
section
/-! DEFINITION. The exposure calculator (spec/05): the fixed tables, the factor, the time for a step, the proof
density. All arithmetic is exact, over whole numbers. -/

namespace Sys2Proof.Machine

/-! ### The fixed tables -/

/-- Density table entries 0 to 9 (R78). -/
def densityRow0 : List Nat := [65536, 67063, 68625, 70223, 71859, 73533, 75245, 76998, 78792, 80627]
/-- Density table entries 10 to 19 (R78). -/
def densityRow1 : List Nat := [82505, 84427, 86393, 88406, 90465, 92572, 94728, 96935, 99193, 101503]
/-- Density table entries 20 to 29 (R78). -/
def densityRow2 : List Nat := [103868, 106287, 108763, 111296, 113889, 116541, 119256, 122034, 124876, 127785]
/-- Density table entries 30 to 39 (R78). -/
def densityRow3 : List Nat := [130762, 133807, 136924, 140113, 143377, 146717, 150134, 153631, 157210, 160872]
/-- Density table entries 40 to 49 (R78). -/
def densityRow4 : List Nat := [164619, 168453, 172377, 176392, 180501, 184706, 189008, 193410, 197916, 202526]
/-- Density table entries 50 to 59 (R78). -/
def densityRow5 : List Nat := [207243, 212070, 217010, 222065, 227237, 232531, 237947, 243489, 249161, 254965]
/-- Density table entries 60 to 69 (R78). -/
def densityRow6 : List Nat := [260904, 266981, 273200, 279563, 286075, 292739, 299557, 306535, 313675, 320981]
/-- Density table entries 70 to 79 (R78). -/
def densityRow7 : List Nat := [328458, 336109, 343938, 351949, 360147, 368536, 377120, 385905, 394893, 404092]
/-- Density table entries 80 to 89 (R78). -/
def densityRow8 : List Nat := [413504, 423136, 432992, 443078, 453398, 463959, 474766, 485825, 497141, 508721]
/-- Density table entries 90 to 99 (R78). -/
def densityRow9 : List Nat := [520571, 532697, 545105, 557802, 570795, 584090, 597695, 611618, 625864, 640442]

/-- The density table: 100 entries, M[k] = 65,536 × 10^(k/100), rounded (R78). -/
def densityTable : List Nat :=
  densityRow0 ++ densityRow1 ++ densityRow2 ++ densityRow3 ++ densityRow4
    ++ densityRow5 ++ densityRow6 ++ densityRow7 ++ densityRow8 ++ densityRow9

/-- The entry M[k]. -/
def densityEntry (k : Nat) : Nat := densityTable.getD k 0

/-- The bracket factors B(−6) to B(+6) (R81). -/
def bracketTable : List Nat := [256, 323, 406, 512, 645, 813, 1024, 1290, 1625, 2048, 2580, 3251, 4096]

/-- The bracket factor B(s) of a step −6 to +6. -/
def bracketFactor (s : Int) : Nat := bracketTable.getD (s + 6).toNat 0

/-! ### The exposure factor -/

/-- The rounded quotient Q of R76. -/
def factorQuotient (g r c : Nat) : Nat := (2 * r * c + g * 64) / (2 * g * 64)

/-- The factor from a metering (R76), held at an end of its range and marked in the three cases of R77. -/
def factorFromCounts (g r c : Nat) : Factor :=
  if g = 0 then { f256 := 16777215, mark := some .over }
  else
    let q := factorQuotient g r c
    if 16777215 < q then { f256 := 16777215, mark := some .over }
    else if q = 0 then { f256 := 1, mark := some .under }
    else { f256 := q, mark := none }

/-- F256(d), the factor of a density of 0 to 480 (R79). -/
def factorOfDensity (d : Nat) : Nat := (2 * densityEntry (d % 100) * 10 ^ (d / 100) + 256) / 512

/-- The factor from a density: never held, no mark (R79). -/
def factorFromDensity (d : Nat) : Factor := { f256 := factorOfDensity d, mark := none }

/-- The largest d in 0 to `top` whose F256(d) does not exceed `f`; 0 if there is none. -/
def searchDensity (f : Nat) : Nat → Nat
  | 0 => 0
  | d + 1 => if factorOfDensity (d + 1) ≤ f then d + 1 else searchDensity f d

/-- The proof density of a factor (R80). -/
def proofDensity (f : Nat) : Nat := searchDensity f 480

/-! ### The time for a step -/

/-- No marks. -/
def Marks.clear : Marks :=
  { overdense := false, underdense := false, clampLow := false, clampHigh := false, clampGuard := false }

/-- The marks a factor carries into a step (R90). -/
def factorMarks : Option FactorMark → Marks
  | none => .clear
  | some .over => { Marks.clear with overdense := true }
  | some .under => { Marks.clear with underdense := true }

/-- The linear time t1 (R87). -/
def linearTime (base f256 b : Nat) : Nat := (2 * base * f256 * b + 262144) / 524288

/-- The stretched time t2 (R88). -/
def stretchedTime (knee slope t1 : Nat) : Nat :=
  if 1 ≤ knee ∧ knee < t1 then knee + (2 * (t1 - knee) * slope + 256) / 512 else t1

/-- The answer to a step-time request: the clamp of R89 and the marks of R90. -/
def stepTime (stock : StockEntry) (f : Factor) (s : Int) : StepTime :=
  let t2 := stretchedTime stock.knee stock.slope (linearTime stock.base f.f256 (bracketFactor s))
  let m := factorMarks f.mark
  if t2 < 10 then { time := 10, marks := { m with clampLow := true } }
  else if 600000 < t2 then { time := 600000, marks := { m with clampHigh := true } }
  else { time := t2, marks := m }

/-- The times and marks of every step of a pattern. -/
def patternTimes (stock : StockEntry) (f : Factor) (pattern : List Int) : List StepTime :=
  pattern.map fun s => stepTime stock f s

/-- A mark that sets CLAMP: any of the four, CLAMP_GUARD alone not (R91). -/
def Marks.clamps (m : Marks) : Bool := m.overdense || m.underdense || m.clampLow || m.clampHigh

end Sys2Proof.Machine
end

