-- ==== Sys2Proof/Machine/Money.lean ====
section
/-! DEFINITION. The charge unit: lookup, the ceiling check and the four postings (spec/11). -/

namespace Sys2Proof.Machine

/-- The accounts of the table. -/
abbrev Accounts := Vector Account 64

/-- The indices of the account table, in order. -/
def accountIndices : List (Fin 64) := List.finRange 64

/-- The OPEN entry whose code a card names (R37, R189). -/
def openAccount (code : Text) (a : Accounts) : Option (Fin 64) :=
  accountIndices.find? fun i => a[i].state = .opened ∧ a[i].code = some code

/-- The OPEN or CLOSED entry that holds a code (R198, R199). -/
def heldAccount (code : Text) (a : Accounts) : Option (Fin 64) :=
  accountIndices.find? fun i => a[i].state ≠ .free ∧ a[i].code = some code

/-- The fees of an account's rate class as they stand. -/
def ratesOf (i : Fin 64) (m : Money) : RateEntry := m.rates[m.accounts[i].rateClass]

/-- The ceiling check: can the account bear one more set of pattern length `len` (R191). -/
def ceilingPasses (i : Fin 64) (len : Nat) (m : Money) : Bool :=
  let a := m.accounts[i]
  decide (a.ceiling = 0)
    || decide (a.final + a.provisional + len * (ratesOf i m).frameFee + (ratesOf i m).copyFee ≤ a.ceiling)

/-- A posting of an amount to a final balance, held at its top with the saturated mark (R197). -/
def addFinal (amount : Nat) (a : Account) : Account :=
  if a.final + amount ≤ Config.finalTop then { a with final := a.final + amount }
  else { a with final := Config.finalTop, saturated := true }

/-- The account table with one entry changed. -/
def changeAccount (i : Fin 64) (f : Account → Account) (a : Accounts) : Accounts := a.set i (f a[i])

/-- A frame fee becomes provisional (R193). -/
def postProvisional (i : Fin 64) (fee : Nat) : Accounts → Accounts :=
  changeAccount i fun a => { a with provisional := a.provisional + fee }

/-- A provisional frame fee is reversed (R194). -/
def postReversal (i : Fin 64) (fee : Nat) : Accounts → Accounts :=
  changeAccount i fun a => { a with provisional := a.provisional - fee }

/-- A provisional frame fee is finalised (R195, R197). -/
def postFinalisation (i : Fin 64) (fee : Nat) : Accounts → Accounts :=
  changeAccount i fun a => addFinal fee { a with provisional := a.provisional - fee }

/-- A copy fee is posted final (R196, R197). -/
def postCopyFee (i : Fin 64) (fee : Nat) : Accounts → Accounts := changeAccount i (addFinal fee)

/-- The event with its account table replaced by a posting, which a waiting set start reads (R98). -/
def posted (f : Accounts → Accounts) (e : Event) : Event :=
  (e.setMoney { e.money with accounts := f e.money.accounts }).woken

end Sys2Proof.Machine
end

