-- ==== Sys2Proof/Machine/FrameMap.lean ====
section
/-! DEFINITION. The frame map: records and sets, the life of a record, decisions, label states (spec/09). -/

namespace Sys2Proof.Machine

/-! ### Rolls and slots -/

/-- The roll slots, in order. -/
def slots : List (Fin 4) := [0, 1, 2, 3]

/-- The slot whose roll passes a test, lowest first. -/
def findRoll (p : Roll → Bool) (f : Film) : Option (Fin 4) :=
  slots.find? fun i => match f.rolls[i] with | some r => p r | none => false

/-- The CAMERA slot. -/
def cameraSlot (f : Film) : Option (Fin 4) := findRoll (fun r => decide (r.state = .camera)) f

/-- Whether a roll is MOUNTING. -/
def Roll.isMounting (r : Roll) : Bool := match r.state with | .mounting _ => true | _ => false

/-- The MOUNTING slot. -/
def mountingSlot (f : Film) : Option (Fin 4) := findRoll Roll.isMounting f

/-- The non-EMPTY slot that holds a roll number. -/
def slotOfRoll (number : Nat) (f : Film) : Option (Fin 4) := findRoll (fun r => decide (r.number = number)) f

/-- The roll table with one slot changed. -/
def changeRoll (i : Fin 4) (g : Roll → Roll) (f : Film) : Film := { f with rolls := f.rolls.set i (f.rolls[i].map g) }

/-- The event with one slot of the roll table changed. -/
def setRoll (i : Fin 4) (g : Roll → Roll) (e : Event) : Event := e.setFilm (changeRoll i g e.film)

/-! ### Records and sets -/

/-- The record of a slot and frame. -/
def isAt (slot : Fin 4) (frame : Nat) (r : Record) : Bool := decide (r.slot = slot ∧ r.frame = frame)

/-- The record held at a slot and frame, if any. -/
def recordAt (slot : Fin 4) (frame : Nat) (rs : List Record) : Option Record := rs.find? (isAt slot frame)

/-- The set of a slot and set head (R154). -/
def inSet (slot : Fin 4) (head : Nat) (r : Record) : Bool := decide (r.slot = slot ∧ r.head = head)

/-- The records of a set, in frame order (R154). -/
def setRecords (slot : Fin 4) (head : Nat) (rs : List Record) : List Record := rs.filter (inSet slot head)

/-- The set heads of a roll, in frame order (R154). -/
def setHeads (slot : Fin 4) (rs : List Record) : List Nat :=
  (rs.filter fun r => decide (r.slot = slot ∧ r.frame = r.head)).map Record.frame

/-- A set is decided when none of its records is UNDECIDED (spec/09, Decisions). -/
def setDecided (set : List Record) : Bool := set.all fun r => decide (r.decision ≠ .undecided)

/-- The free records (R153). -/
def freeRecords (rs : List Record) : Nat := Config.mapPlaces - rs.length

/-- The collection's order: by roll slot, then by frame number (R153). -/
def recordBefore (a b : Record) : Bool := decide (a.slot < b.slot ∨ (a.slot = b.slot ∧ a.frame < b.frame))

/-- A record takes its place in the order (R153). -/
def insertRecord (r : Record) : List Record → List Record
  | [] => [r]
  | x :: xs => if recordBefore r x then r :: x :: xs else x :: insertRecord r xs

/-- The collection with every record that passes a test changed. -/
def changeRecords (p : Record → Bool) (g : Record → Record) (rs : List Record) : List Record :=
  rs.map fun r => if p r then g r else r

/-! ### Life of a record on the camera -/

/-- Whether a creation request is refused (R155). -/
def creationRefused (r : Record) (capacity : Nat) (rs : List Record) : Bool :=
  decide (Config.mapPlaces ≤ rs.length) || (recordAt r.slot r.frame rs).isSome
    || decide (r.frame < 1) || decide (capacity < r.frame)

/-- A record is created (R155); CLAMP is set when its marks call for it (R91). -/
def createRecord (r : Record) (e : Event) : Event :=
  setFlagIf r.marks.clamps .clamp (e.setRecords (insertRecord r e.records)).woken

/-- A completed record: EXPOSING becomes EXPOSED, its fee PROVISIONAL (R156). -/
def Record.completed (r : Record) : Record := { r with kind := .exposed, charge := .provisional }

/-- The complete request: an EXPOSING record becomes EXPOSED and its frame fee is posted as provisional (R156,
R193). In any other kind nothing changes. -/
def completeRecord (slot : Fin 4) (frame : Nat) (e : Event) : Event :=
  match recordAt slot frame e.records with
  | some r =>
    if r.kind = .exposing then
      posted (postProvisional r.account r.fee)
        (e.setRecords (changeRecords (isAt slot frame) Record.completed e.records))
    else e
  | none => e

/-- A spoiled record: EXPOSING becomes SPOILED; any other kind is kept (R156). -/
def Record.spoiled (r : Record) : Record := if r.kind = .exposing then { r with kind := .spoiled } else r

/-- The spoil request (R156). -/
def spoilRecord (slot : Fin 4) (frame : Nat) (e : Event) : Event :=
  e.setRecords (changeRecords (isAt slot frame) Record.spoiled e.records)

/-- Whether a record's frame fee is reversed by a fog (R158, R194). -/
def Record.fogReverses (r : Record) : Bool := decide (r.kind = .exposed ∧ r.charge = .provisional)

/-- A fogged record (R158). -/
def Record.afterFog (r : Record) : Record :=
  match r.kind with
  | .exposing => { r with kind := .fogged, charge := .none }
  | .exposed => { r with kind := .fogged, charge := if r.charge = .provisional then .reversed else r.charge }
  | .spoiled => r
  | .fogged => r

/-- The postings of a list of records, one record at a time. -/
def postAll (post : Fin 64 → Nat → Accounts → Accounts) (rs : List Record) (a : Accounts) : Accounts :=
  rs.foldl (fun a r => post r.account r.fee a) a

/-- The fog of a roll's records, with the reversals (R158, R194). -/
def fogRoll (slot : Fin 4) (e : Event) : Event :=
  posted (postAll postReversal (e.records.filter fun r => decide (r.slot = slot) && r.fogReverses))
    (e.setRecords (changeRecords (fun r => decide (r.slot = slot)) Record.afterFog e.records))

/-- A set head record with a new set status. -/
def Record.withStatus (status : SetStatus) (r : Record) : Record :=
  { r with data := r.data.map fun d => { d with status } }

/-- The set head record is given its status at the end of a set (R157). -/
def setHeadStatus (slot : Fin 4) (head : Nat) (status : SetStatus) (e : Event) : Event :=
  e.setRecords (changeRecords (isAt slot head) (Record.withStatus status) e.records)

/-! ### Decisions -/

/-- The EXPOSED records of a record's set. -/
def exposedInSet (r : Record) (rs : List Record) : Nat :=
  ((setRecords r.slot r.head rs).filter fun x => decide (x.kind = .exposed)).length

/-- The automatic decision on a record, by the number of EXPOSED records in its set (R159). -/
def Record.autoDecided (rs : List Record) (r : Record) : Record :=
  match exposedInSet r rs with
  | 0 => { r with decision := .discard }
  | 1 => { r with decision := if r.kind = .exposed then .keep else .discard }
  | _ => r

/-- The automatic decisions on a returned roll (R159). -/
def autoDecide (slot : Fin 4) (e : Event) : Event :=
  e.setRecords (changeRecords (fun r => decide (r.slot = slot)) (Record.autoDecided e.records) e.records)

/-- An accepted KP card decides the whole set: KEEP at the named frame, or no KEEP frame (R162). -/
def decideSet (slot : Fin 4) (head : Nat) (keep : Option Nat) (e : Event) : Event :=
  e.setRecords (changeRecords (inSet slot head)
    (fun r => { r with decision := if keep = some r.frame then .keep else .discard }) e.records)

/-- A set is late when a label of it is SPOOLED or PRINTED, or when the roll is MOUNTING and the set's head lies
below the label cursor (R163). -/
def setLate (roll : Roll) (slot : Fin 4) (head : Nat) (rs : List Record) : Bool :=
  (setRecords slot head rs).any (fun r => decide (r.label ≠ .none))
    || match roll.state with | .mounting cursor => decide (head < cursor) | _ => false

/-- A roll can be closed out when every set on it is decided and every KEEP record is PRINTED (R164). -/
def canCloseOut (slot : Fin 4) (rs : List Record) : Bool :=
  rs.all fun r => decide (r.slot ≠ slot)
    || (decide (r.decision ≠ .undecided) && (decide (r.decision ≠ .keep) || decide (r.label = .printed)))

/-! ### Removal -/

/-- A slot's records leave the frame map, the fees of the PROVISIONAL ones posted (R165, R166). -/
def removeRoll (post : Fin 64 → Nat → Accounts → Accounts) (slot : Fin 4) (e : Event) : Event :=
  posted (postAll post (e.records.filter fun r => decide (r.slot = slot ∧ r.charge = .provisional)))
    (e.setRecords (e.records.filter fun r => decide (r.slot ≠ slot)))

end Sys2Proof.Machine
end

