-- ==== Sys2Proof/Machine/Spool.lean ====
section
/-! DEFINITION. The label spool: composing, feeding, sending; and the close-out and hand-over of the MOUNTING
roll, which meet it in one event (spec/10, R135, R165). -/

namespace Sys2Proof.Machine

/-! ### Composing a label (R171, R172) -/

/-- What a label is composed from. -/
structure LabelSource where
  catalog : Text
  title : Text
  accountName : Text
  date : Text
  rollFrame : Text
  copy : Text
  tag : Text
deriving DecidableEq, Repr

/-- The text of an item, given the title text at its place (R171). -/
def itemContent (src : LabelSource) (title : Text) : Item → Text
  | .catalog => src.catalog
  | .title => title
  | .accountName => src.accountName
  | .date => src.date
  | .rollFrame => src.rollFrame
  | .copy => src.copy
  | .stockTag => src.tag
  | .text t => t

/-- The title offset once the spaces at it are passed over, when it is above 0 (R172). -/
def titleStart (title : Text) (offset : Nat) : Nat :=
  if offset = 0 then 0 else offset + ((title.drop offset).takeWhile (· = ' ')).length

/-- A line joined so far, with one more item text; an empty text is left out with its joining space (R172). -/
def joinItem (line item : Text) : Text :=
  if item = [] then line else if line = [] then item else line ++ ' ' :: item

/-- The place at which the next item begins in the joined line. -/
def itemPlace (line : Text) : Nat := if line = [] then 0 else line.length + 1

/-- The items of a line, joined in order, with the title offset carried through them (R172). A TITLE item moves
the offset on by its characters within the width; one wholly beyond the width does not move it. -/
def joinItems (src : LabelSource) (width : Nat) : List Item → Text → Nat → Text × Nat
  | [], line, offset => (line, offset)
  | i :: is, line, offset =>
    let start := titleStart src.title offset
    let content := itemContent src (src.title.drop start) i
    let within := min content.length (width - itemPlace line)
    let offset' := if i = .title ∧ 0 < within then start + within else offset
    joinItems src width is (joinItem line content) offset'

/-- The composed lines: each joined line cut at the width (R172). -/
def composeLines (src : LabelSource) (width : Nat) : List (List Item) → Nat → List Text
  | [], _ => []
  | l :: ls, offset =>
    let joined := joinItems src width l [] offset
    joined.1.take width :: composeLines src width ls joined.2

/-- The sources of a kept frame's label: its set head data, the account, the date, the roll (R171). -/
def labelSource (roll : Roll) (r : Record) (d : SetHead) (s : State) : LabelSource :=
  { catalog := d.catalog
    title := optText d.title
    accountName := trimRight s.money.accounts[r.account].name
    date := trimRight s.stand.date
    rollFrame := dec roll.number ++ '-' :: dec r.frame
    copy := dec r.copy ++ '/' :: dec r.copies
    tag := d.tag }

/-- The spool entry of a kept frame, composed by the format entry as it stands (R171, R172, R173). -/
def composeLabel (slot : Fin 4) (roll : Roll) (r : Record) (d : SetHead) (s : State) : SpoolEntry :=
  let f := s.labels.formats[d.format]
  { slot, frame := r.frame, lines := composeLines (labelSource roll r d s) f.width f.lines 0 }

/-! ### Sending (R177) -/

/-- The characters of a label: `L`, the line count and CR; each line and CR; `E` and CR (R177). -/
def labelChars (l : SpoolEntry) : Text :=
  'L' :: dec l.lines.length ++ '\r' :: l.lines.flatMap (fun t => t ++ ['\r']) ++ ['E', '\r']

/-- The head entry is sent and the printer becomes SENT; with an empty spool the printer becomes READY. Both
timers are stopped. -/
def sendHead (e : Event) : Event :=
  match e.labels.spool with
  | l :: _ =>
    e.setLabels { e.labels with printer := .sending, sending := labelChars l, timeout := none, retry := none }
  | [] => e.setLabels { e.labels with printer := .ready, timeout := none, retry := none }

/-- A label is sent when the printer is READY and the spool is not empty, within the event that makes both hold
(R177). -/
def sendIfReady (e : Event) : Event :=
  if e.labels.printer = .ready ∧ e.labels.spool ≠ [] then sendHead e else e

/-! ### Feeding (R174, R175) -/

/-- A slot's label cursor. -/
def cursorOf (roll : Roll) : Nat := match roll.state with | .mounting c => c | _ => 1

/-- The highest frame of some records. -/
def highestFrame (rs : List Record) : Nat := rs.foldl (fun m r => max m r.frame) 0

/-- The label cursor moves past a set: one above its highest record (R174). -/
def moveCursor (slot : Fin 4) (set : List Record) (e : Event) : Event :=
  setRoll slot (fun r => { r with state := .mounting (highestFrame set + 1) }) e

/-- A label for a set's KEEP frame joins the spool and the frame becomes SPOOLED (R164, R175). -/
def spoolFrame (slot : Fin 4) (roll : Roll) (r : Record) (d : SetHead) (e : Event) : Event :=
  let entry := composeLabel slot roll r d e.toState
  (e.setLabels { e.labels with spool := e.labels.spool ++ [entry] }).setRecords
    (changeRecords (isAt slot r.frame) (fun x => { x with label := .spooled }) e.records)

/-- The set head data of a set. -/
def headData (set : List Record) : Option SetHead := set.findSome? fun r => r.data

/-- Feeding takes the sets in frame order until it stops (R175). -/
def feedSets (slot : Fin 4) (roll : Roll) : List Nat → Event → Event
  | [], e => e
  | h :: hs, e =>
    let set := setRecords slot h e.records
    if setDecided set = false then e
    else
      match set.find? fun r => decide (r.decision = .keep), headData set with
      | some r, some d =>
        if r.label = .none then
          if e.labels.spool.length < Config.spoolPlaces then
            feedSets slot roll hs (moveCursor slot set (spoolFrame slot roll r d e))
          else e
        else feedSets slot roll hs (moveCursor slot set e)
      | _, _ => feedSets slot roll hs (moveCursor slot set e)

/-- Feeding from the set at which the label cursor stands, unless the feed hold is on (R175, R183); then the
printer is asked to send if it is READY and has an entry (R177). -/
def feed (e : Event) : Event :=
  if e.labels.feedHold then e
  else
    match mountingSlot e.film with
    | none => e
    | some i =>
      match e.film.rolls[i] with
      | none => e
      | some roll =>
        sendIfReady
          (feedSets i roll ((setHeads i e.records).filter fun h => decide (cursorOf roll ≤ h)) e)

/-- The feed hold is released, and feeding runs (R184). -/
def releaseHold (e : Event) : Event :=
  if e.labels.feedHold then feed (e.setLabels { e.labels with feedHold := false }) else e

/-! ### Close-out and hand-over (R135, R164, R165) -/

/-- A slot becomes EMPTY: it loses every field and its place in the return order (R134, R151). -/
def emptySlot (i : Fin 4) (e : Event) : Event :=
  e.setFilm { e.film with rolls := e.film.rolls.set i none, order := e.film.order.filter fun j => decide (j ≠ i) }

/-- The close-out of a roll: fees finalised, records removed, slot EMPTY, CLOSED set (R165, steps 1 to 3). -/
def closeOut (i : Fin 4) (e : Event) : Event := setFlag .closed (emptySlot i (removeRoll postFinalisation i e))

/-- The head of the return order becomes MOUNTING with its cursor at frame 1 (R135). -/
def mountHead (i : Fin 4) (rest : List (Fin 4)) (e : Event) : Event :=
  setRoll i (fun r => { r with state := .mounting 1 }) (e.setFilm { e.film with order := rest })

/-- The hand-over (R135): the head of the return order becomes MOUNTING and is fed; if it can be closed out it
is, and the hand-over runs again. At most `n` hand-overs, and the return order bounds them. -/
def handOverN : Nat → Event → Event
  | 0, e => e
  | n + 1, e =>
    match e.film.order with
    | [] => e
    | i :: rest =>
      let e1 := feed (mountHead i rest e)
      if canCloseOut i e1.records then handOverN n (closeOut i e1) else e1

/-- The hand-over, as often as the return order allows. -/
def handOver (e : Event) : Event := handOverN e.film.order.length e

/-- The close-out check on the MOUNTING roll, with the close-out and hand-over when it holds (R164, R165). -/
def checkCloseOut (e : Event) : Event :=
  match mountingSlot e.film with
  | some i => if canCloseOut i e.records then handOver (closeOut i e) else e
  | none => e

end Sys2Proof.Machine
end

