-- ==== Sys2Proof/Machine/Lamp.lean ====
section
/-! DEFINITION. The lamp controller with what it tells the light meter and the sequencer, and the start and
abandonment of a metering (R62, R69, R117 to R123). -/

namespace Sys2Proof.Machine

/-! ### What the lamp controller reads -/

/-- The lit time in whole milliseconds (spec/07, The lamp controller; R120). -/
def litMs (l : Lamp) : Nat := l.lit / Config.ms

/-- The guard limit in milliseconds: limit times unit times 1,000. -/
def guardMs (s : StandEntry) : Nat := s.guardLimit * s.guardUnit * 1000

/-- The full cool-down in milliseconds. -/
def fullCoolDown (s : StandEntry) : Nat := s.coolDown * 1000

/-- The proportional cool-down in milliseconds, rounded up (R121). -/
def proportionalCoolDown (st : StandEntry) (l : Lamp) : Nat :=
  (fullCoolDown st * litMs l + guardMs st - 1) / guardMs st

/-- The remaining allowance in tenths of a millisecond (R120). -/
def allowance (s : State) : Nat := 10 * (guardMs s.stand - litMs s.lamp)

/-- The METER warm-up in milliseconds (R60). -/
def warmUpMs (m : MeterEntry) : Nat := m.warmUp * 10

/-! ### The sequencer's lighting -/

/-- The event with the current slip and its context changed, if a slip is current. -/
def changeCurrent (g : Current → Current) (e : Event) : Event :=
  e.setSeq { e.seq with slip := e.seq.slip.map g }

/-- Lighting metered and fresh become NO: the lamp has left LIT or WARMING (R92, R121). -/
def lightingLost (e : Event) : Event := changeCurrent (fun c => { c with metered := false, fresh := false }) e

/-- The step times of a set context with those of the steps not yet exposed, the present one included, taken
anew with a factor (R100). -/
def SetCtx.retimed (f : Factor) (x : SetCtx) : SetCtx :=
  { x with times := x.times.take (x.step - 1) ++ (patternTimes x.stock f x.pattern).drop (x.step - 1) }

/-- A lighting is metered, with its factor (R95): lighting metered and fresh become YES and the state SET_READY.
Inside a set the times are asked for again and the step continues (R100); outside, the set start or the proof
checks are evaluated. -/
def lightingMetered (f : Factor) (e : Event) : Event :=
  let e1 := changeCurrent (fun c => { c with factor := f, metered := true, fresh := true }) e
  match e1.seq.set with
  | some x => { e1.setSeq { e1.seq with state := .setReady, wait := none, set := some (x.retimed f) } with step := true }
  | none => (e1.setSeq { e1.seq with state := .setReady, wait := none }).goOn

/-! ### Starting and abandoning a metering -/

/-- A metering starts, if the meter is IDLE: R, c and the time base are read and the reference phase begins
(R62, R63). -/
def beginMetering (u : User) (e : Event) : Event :=
  if e.meter.phase = .idle then
    e.setMeter { e.meter with
      count := Config.countSpan - e.meter.entry.refCount
      timeBase := 0
      phase := .reference
      job := some { user := u, refCount := e.meter.entry.refCount, cal := e.meter.entry.cal, base := e.meter.entry.base } }
  else e

/-- The meter stops with nothing handed over: the phase returns to IDLE and the user to NONE (R64, R66, R69). -/
def meterStops (e : Event) : Event := e.setMeter { e.meter with phase := .idle, job := none }

/-! ### Lighting -/

/-- The sequencer is told that the lamp is LIT (R95): a slip without a density is metered, one with a density
has its lighting metered by the warm-up. -/
def sequencerLit (e : Event) : Event :=
  if e.seq.state = .warming then
    match e.seq.slip with
    | some c =>
      match c.slip.density with
      | none => beginMetering .sequencer (e.setSeq { e.seq with state := .metering })
      | some _ => lightingMetered c.factor e
    | none => e
  else e

/-- The lamp becomes LIT and its user is told (R119). -/
def lampLit (e : Event) : Event :=
  let e1 := e.setLamp { e.lamp with state := .lit, warmUp := none }
  match e.lamp.user with
  | some .sequencer => sequencerLit e1
  | some .calibration => beginMetering .calibration e1
  | none => e1

/-- A request to light the lamp (R118). -/
def lightLamp (u : User) (e : Event) : Event :=
  match e.lamp.state with
  | .off =>
    let e1 := e.setLamp { e.lamp with
      state := .warming, user := some u, lit := 0, warmUp := some (warmUpMs e.meter.entry * Config.ms) }
    if e.meter.entry.warmUp = 0 then lampLit e1 else e1
  | .cooling => e.setLamp { e.lamp with waiting := some u }
  | .warming => e
  | .lit => e

/-! ### Going dark -/

/-- The cool-down ends: the lamp is OFF, and a waiting request is served, or else the sequencer is told (R123). -/
def coolDownEnds (e : Event) : Event :=
  let e1 := e.setLamp { e.lamp with state := .off, coolDown := none, waiting := none }
  match e.lamp.waiting with
  | some u => lightLamp u e1
  | none => e1.woken.goOn

/-- The lamp goes dark for a cool-down of `ms` milliseconds; a cool-down of 0 ends at once (R121, R122). The meter
abandons a metering in flight (R69) and the sequencer's lighting is lost. -/
def darken (ms : Nat) (e : Event) : Event :=
  let e1 := lightingLost (meterStops (e.setLamp { e.lamp with
    state := .cooling, user := none, warmUp := none, coolDown := some (ms * Config.ms) }))
  if ms = 0 then coolDownEnds e1 else e1

/-- A voluntary extinguish (R121). -/
def extinguish (e : Event) : Event :=
  match e.lamp.state with
  | .warming => darken (proportionalCoolDown e.stand e.lamp) e
  | .lit => darken (proportionalCoolDown e.stand e.lamp) e
  | .cooling => e.setLamp { e.lamp with waiting := none }
  | .off => e

/-- Whether the lamp is on for a user, or a request of that user waits. -/
def lampServes (u : User) (l : Lamp) : Bool :=
  match l.state with
  | .warming => decide (l.user = some u)
  | .lit => decide (l.user = some u)
  | .cooling => decide (l.waiting = some u)
  | .off => false

/-- The voluntary extinguish of a user: only a lamp that is on for it, or its waiting request (R96, R108, R110,
R121). -/
def extinguishFor (u : User) (e : Event) : Event := if lampServes u e.lamp then extinguish e else e

/-- The guard forces the lamp off with the full cool-down, and GUARD is set (R122). -/
def forceOff (e : Event) : Event := setFlag .guard (darken (fullCoolDown e.stand) e)

/-! ### The shutter's conditions (R126, R128) -/

/-- The five exposure conditions (R126). -/
def exposureFit (s : State) : Bool :=
  decide (s.lamp.state = .lit) && decide (s.modes.current = .run) && decide (s.film.state = .ready)
    && !s.inputs.door.debounced && s.inputs.gate.debounced

/-- The shutter closes with no exposure end: an abort, or a condition that ceased (R127, R128). An abort that
finds it CLOSED changes nothing. -/
def closeShutter (e : Event) : Event :=
  if e.shutter.opened then e.setShutter { opened := false, timer := none } else e

/-- An open shutter closes when an exposure condition has ceased to hold (R128). -/
def closeUnfit (e : Event) : Event := if exposureFit e.toState then e else closeShutter e

end Sys2Proof.Machine
end

