-- ==== Sys2Proof/Machine/Sequencer.lean ====
section
/-! DEFINITION. Mode control and the copy sequencer with the transport's advances: legal points, set and slip
ends, steps, exposures, waits, proofs (spec/02, spec/06, R141 to R146). -/

namespace Sys2Proof.Machine

/-! ### Small readings -/

/-- A slide is present: the debounced gate line. -/
def gateActive (s : State) : Bool := s.inputs.gate.debounced

/-- The sequencer is inside a set (R23). -/
def insideSet (s : State) : Bool := s.seq.set.isSome

/-- The modes in which the sequencer works: RUN and PROOF (R27). -/
def Mode.working : Mode → Bool
  | .run => true
  | .proof => true
  | .setup => false
  | .hold => false

/-- The three conditions inside a set at which a change of mode is legal (R24). -/
def setLegalPoint (q : Seq) : Bool :=
  match q.state with
  | .warming => true
  | .metering => true
  | .setReady => decide (q.wait = some .transport ∨ q.wait = some .lamp)
  | _ => false

/-- Whether a change to a mode is legal now (R23 to R25). -/
def changeLegal (s : State) (m : Mode) : Bool :=
  match s.modes.current with
  | .setup => !(m.working && s.meter.calibrating)
  | .hold => !(m.working && s.meter.calibrating)
  | .proof => true
  | .run => !insideSet s || setLegalPoint s.seq

/-- The event with the sequencer in a state with no wait. -/
def seqTo (st : SeqState) (e : Event) : Event := e.setSeq { e.seq with state := st, wait := none }

/-! ### Slip end (R108) -/

/-- The current slip ends with an outcome (R108). -/
def slipEnd (ending : Ending) (e : Event) : Event :=
  match e.seq.slip with
  | none => e
  | some c =>
    let entry : Completion :=
      { slip := c.slip.number, ending,
        made := if ending = .proofed then 0 else c.made,
        incomplete := if ending = .proofed then 0 else c.incomplete }
    let e1 := extinguishFor .sequencer (appendEnded entry e)
    let e2 := e1.setSeq
      { state := if gateActive e1.toState then .removal else .idle, wait := none, slip := none, set := none }
    (setFlagIf (gateActive e1.toState) .remove e2).arbiterDue

/-! ### Taking a change of mode (R26, R110, R111) -/

/-- The change is taken: the current mode becomes the requested mode, nothing pends, MODE is set; an open shutter
closes if RUN is left (R128), the feed hold is released (R184), and the arbiter is due in RUN or PROOF (R26). -/
def commitMode (e : Event) : Event :=
  let e1 := e.setModes { e.modes with current := e.modes.requested, change := .none }
  let e2 := (releaseHold (closeUnfit (setFlag .mode e1))).woken
  if e.modes.requested.working then e2.arbiterDue else e2

/-- The sequencer parks (R110). -/
def park (e : Event) : Event :=
  let e1 := extinguishFor .sequencer e
  match e1.seq.state with
  | .warming => seqTo .setReady e1
  | .metering => seqTo .setReady e1
  | .setReady => seqTo .setReady e1
  | _ => e1

/-- The original is awaited: LOADING, and ORIGINAL is set (R93, R94, R96, R111). -/
def awaitOriginal (e : Event) : Event := setFlag .original (seqTo .loading e)

/-- The original is in the gate in LOADING: the lamp is asked for, and the state is WARMING (R94). -/
def originalIn (e : Event) : Event := lightLamp .sequencer (seqTo .warming e)

/-- The sequencer resumes from the debounced gate level (R111). -/
def resume (e : Event) : Event :=
  match e.seq.state with
  | .removal =>
    if gateActive e.toState then e
    else if e.seq.slip.isSome then awaitOriginal e else (seqTo .idle e).arbiterDue
  | .loading => if gateActive e.toState then originalIn e else e
  | .setReady => if gateActive e.toState then e.goOn else awaitOriginal e
  | _ => e

/-- The sequencer's response to a change taken from a mode: it parks in SETUP and HOLD, resumes from them in RUN
and PROOF, and between RUN and PROOF goes on (R110, R111). -/
def respondMode (old : Mode) (e : Event) : Event :=
  if e.modes.current.working then
    if old.working then e else resume e
  else park e

/-! ### Set end (R107) -/

/-- The slip's fate at the end of a set (R107, step 4). -/
def slipFate (guardShort : Bool) (e : Event) : Event :=
  match e.seq.slip with
  | none => e
  | some c =>
    if c.slip.cancelPending then slipEnd .cancelled e
    else if guardShort then slipEnd .guardShort e
    else if c.slip.copies ≤ c.copy then slipEnd (if c.incomplete = 0 then .done else .short) e
    else
      (e.setSeq { e.seq with state := .setReady, wait := none, slip := some { c with copy := c.copy + 1 } }).goOn

/-- The set head record, if one was made, is given the set's status (R107 step 1, R157). -/
def markSetHead (complete : Bool) (e : Event) : Event :=
  match e.seq.set, cameraSlot e.film with
  | some x, some i =>
    match x.head with
    | some h => setHeadStatus i h (if complete then .complete else .incomplete) e
    | none => e
  | _, _ => e

/-- A set ends (R107): its head's status, the count of incomplete sets, the set context; a change pending at
BOUNDARY is taken; then the slip's fate, judged under the mode that results. -/
def endSet (complete guardShort : Bool) (e : Event) : Event :=
  if insideSet e.toState = false then e
  else
    let e1 := markSetHead complete e
    let e2 := if complete then e1 else changeCurrent (fun c => { c with incomplete := c.incomplete + 1 }) e1
    let e3 := e2.setSeq { e2.seq with set := none }
    if e3.modes.change = .boundary then
      respondMode e.modes.current (slipFate guardShort (commitMode e3))
    else slipFate guardShort e3

/-- A change of mode is taken now; inside a set, the set ends INCOMPLETE as it is taken (R24, R26). -/
def takeChange (e : Event) : Event :=
  respondMode e.modes.current (endSet false false (commitMode e))

/-- A request for a mode, judged at once (R22, R28). -/
def requestMode (m : Mode) (e : Event) : Event :=
  let e1 := e.setModes { e.modes with requested := m }
  if m = e.modes.current then e1.setModes { e1.modes with change := .none }
  else if changeLegal e1.toState m then takeChange e1
  else e1.setModes { e1.modes with change := if e.modes.current = .run then .boundary else .cal }

/-- A change pending at BOUNDARY is taken when the sequencer enters one of the three conditions (R24). -/
def boundaryCheck (e : Event) : Event :=
  if e.modes.change = .boundary ∧ setLegalPoint e.seq = true then takeChange e else e

/-- A calibration ends (R72 to R74): its lamp is extinguished, and a change pending at CAL is taken (R25). -/
def calibrationEnds (e : Event) : Event :=
  let e1 := extinguishFor .calibration e
  let e2 := e1.setMeter { e1.meter with calibrating := false }
  if e2.modes.change = .cal then takeChange e2 else e2

/-! ### Waits (R98) -/

/-- A wait is entered: SET_READY with its cause, and the lamp extinguished if it is on for the sequencer. -/
def enterWait (c : WaitCause) (e : Event) : Event :=
  let e1 := e.setSeq { e.seq with state := .setReady, wait := some c }
  if e1.lamp.user = some .sequencer then extinguish e1 else e1

/-- A wait inside a set, made known to mode control (R98, R24). -/
def enterSetWait (c : WaitCause) (e : Event) : Event := boundaryCheck (enterWait c e)

/-! ### Advances (R141, R143, R145, R105) -/

/-- The transport enters a state. -/
def filmTo (st : FilmState) (e : Event) : Event := e.setFilm { e.film with state := st }

/-- The step just made was the last: its index equals the pattern length and repeat is NO (R105). -/
def lastStep (x : SetCtx) : Bool := decide (x.step = x.pattern.length) && !x.again

/-- The sequencer takes an outcome of its advance other than READY (R105). A state that is none of the four
outcomes of R145 ends the set INCOMPLETE, as check 1 of R100 would. Log 13. -/
def advanceStopped (e : Event) : Event :=
  match e.seq.set with
  | none => e
  | some x =>
    match e.film.state with
    | .suspFrames => endSet (lastStep x) false e
    | .suspSensor _ => endSet (lastStep x) false e
    | .faultJam _ => enterSetWait .transport e
    | _ => endSet false false e

/-- Steps 2 and 3 of R141: stopped by the roll end, or put in flight with the mark edge and the advance timeout
read from the STAND table. -/
def startAdvance (k : AdvanceKind) (e : Event) : Event :=
  if e.inputs.rollEnd.debounced then setFlag .roll (filmTo (.suspSensor k) e)
  else
    e.setFilm { e.film with
      state := if k = .frame then .advancing else .loading
      flight := some { kind := k, edge := e.stand.markEdge, left := e.stand.advanceTimeout * Config.ms } }

/-- The CAMERA roll's next frame becomes capacity + 1, SUSPENDED(FRAMES), and ROLL is set (R141 step 1, R146). -/
def exhaustRoll (i : Fin 4) (e : Event) : Event :=
  setFlag .roll (filmTo .suspFrames (setRoll i (fun r => { r with next := r.capacity + 1 }) e))

/-- A FRAME advance judged by all three steps of R141. -/
def judgeFrameAdvance (e : Event) : Event :=
  match cameraSlot e.film with
  | none => e
  | some i =>
    match e.film.rolls[i] with
    | none => e
    | some r => if r.capacity ≤ r.next then exhaustRoll i e else startAdvance .frame e

/-- The transport is asked for a FRAME advance (R141): judged in READY, and in any other state not run. -/
def askAdvance (e : Event) : Event := if e.film.state = .ready then judgeFrameAdvance e else e

/-- The sequencer asks for a FRAME advance and is ADVANCING (R103, R141); one that is not run has the transport's
present state for its outcome. An outcome of this event is taken at once (R145). -/
def requestAdvance (e : Event) : Event :=
  let e1 := askAdvance (seqTo .advancing e)
  if e.film.state = .ready ∧ e1.film.state = .advancing then e1 else advanceStopped e1

/-! ### Exposures (R101 to R103, R126) -/

/-- The CAMERA slot and its next frame. -/
def cameraFrame (f : Film) : Option (Fin 4 × Roll) :=
  (cameraSlot f).bind fun i => f.rolls[i].map fun r => (i, r)

/-- The step's record, at the CAMERA roll's next frame, is made SPOILED (R96, R103). -/
def spoilStep (e : Event) : Event :=
  match cameraFrame e.film with
  | some (i, r) => spoilRecord i r.next e
  | none => e

/-- The set context with repeat set. -/
def setAgain (b : Bool) (e : Event) : Event :=
  e.setSeq { e.seq with set := e.seq.set.map fun x => { x with again := b } }

/-- A cut exposure, by guard expiry or a refused request: the shutter is aborted, the record SPOILED, repeat is
YES, and the transport is asked to advance (R103, R126). -/
def cutExposure (e : Event) : Event := requestAdvance (setAgain true (spoilStep (closeShutter e)))

/-- The exposure ends: the record is completed, repeat is NO, and the transport is asked to advance (R103). -/
def exposureEnds (e : Event) : Event :=
  match cameraFrame e.film with
  | some (i, r) => requestAdvance (setAgain false (completeRecord i r.next e))
  | none => requestAdvance (setAgain false e)

/-- The record of a step (R102). -/
def stepRecord (i : Fin 4) (frame : Nat) (c : Current) (x : SetCtx) (t : StepTime) : Record :=
  { slot := i, frame, kind := .exposing, slip := c.slip.number, account := c.slip.account, copy := c.copy,
    copies := c.slip.copies, head := x.head.getD frame, step := x.step, bracket := x.pattern.getD (x.step - 1) 0,
    time := t.time, marks := t.marks, fee := x.frameFee, decision := .undecided, label := .none, charge := .none,
    data :=
      match x.head with
      | some _ => none
      | none =>
        some { status := .opened, catalog := c.slip.catalog, title := c.slip.title, format := c.slip.format,
               tag := x.stock.tag, copyFee := x.copyFee } }

/-- The shutter is asked to open for a time in tenths of a millisecond (R126): taken when it is CLOSED and the five
conditions hold, and otherwise refused as a cut exposure. -/
def requestExposure (t : Nat) (e : Event) : Event :=
  if e.shutter.opened = false ∧ exposureFit e.toState = true then 
    e.setShutter { opened := true, timer := some (t * Config.tenth) }
  else cutExposure e

/-- An exposure begins (R102): its record is created, the set head placed, fresh becomes NO, the state is EXPOSING
and the shutter is asked to open. A refused creation ends the set INCOMPLETE (R155). -/
def beginExposure (t : StepTime) (e : Event) : Event :=
  match cameraFrame e.film, e.seq.slip, e.seq.set with
  | some (i, r), some c, some x =>
    let rec' := stepRecord i r.next c x t
    if creationRefused rec' r.capacity e.records then
      endSet false false (setFlagIf (decide (Config.mapPlaces ≤ e.records.length)) .map e)
    else
      let e1 := createRecord rec' e
      let e2 := e1.setSeq { e1.seq with
        state := .exposing, wait := none, slip := some { c with fresh := false },
        set := some { x with head := some (x.head.getD r.next) } }
      requestExposure t.time e2
  | _, _, _ => endSet false false e

/-- The present step's time and marks as the calculator last gave them. -/
def presentTime (x : SetCtx) : StepTime := x.times.getD (x.step - 1) { time := 10, marks := Marks.clear }

/-- With the lamp LIT, the step's time is compared with the remaining allowance (R101). -/
def compareStep (e : Event) : Event :=
  match e.seq.slip, e.seq.set with
  | some c, some x =>
    let t := presentTime x
    let a := allowance e.toState
    if t.time ≤ a then beginExposure t e
    else if c.fresh = false then enterSetWait .lamp e
    else if 20 ≤ a then beginExposure { time := a - 10, marks := { t.marks with clampGuard := true } } e
    else endSet false true e
  | _, _ => e

/-- The sequencer waits for its lighting: WARMING, or METERING while its metering is in flight. -/
def awaitLighting (e : Event) : Event :=
  match e.meter.job with
  | some j => if j.user = .sequencer then seqTo .metering e else lightLamp .sequencer (seqTo .warming e)
  | none => lightLamp .sequencer (seqTo .warming e)

/-- The lamp is LIT with lighting metered YES. -/
def lightingReady (s : State) : Bool :=
  decide (s.lamp.state = .lit) && match s.seq.slip with | some c => c.metered | none => false

/-- A relight within a set: WARMING is a legal point, so a change pending at BOUNDARY is taken first (R24). -/
def relight (e : Event) : Event :=
  let e1 := boundaryCheck (seqTo .warming e)
  if insideSet e1.toState then awaitLighting e1 else e1

/-- A step begins (R100). -/
def beginStep (e : Event) : Event :=
  let e1 := seqTo .setReady e
  match e1.film.state, cameraFrame e1.film with
  | .faultJam _, _ => enterSetWait .transport e1
  | .ready, some (_, r) =>
    if r.capacity < r.next then endSet false false e1
    else if freeRecords e1.records = 0 then endSet false false (setFlag .map e1)
    else if e1.lamp.state = .cooling then enterSetWait .lamp e1
    else if lightingReady e1.toState then compareStep e1
    else relight e1
  | _, _ => endSet false false e1

/-- The sequencer takes the outcome READY of its advance (R105). -/
def advanceSucceeded (e : Event) : Event :=
  match e.seq.set with
  | none => e
  | some x =>
    if lastStep x then endSet true false e
    else beginStep (e.setSeq { e.seq with set := some { x with step := if x.again then x.step else x.step + 1 } })

/-! ### Set start (R97, R99) -/

/-- The set starts (R99). -/
def beginSet (e : Event) : Event :=
  match e.seq.slip with
  | none => e
  | some c =>
    let stock := e.tables.stock[c.slip.stock]
    let pattern := e.tables.pattern[c.slip.pattern]
    let rates := ratesOf c.slip.account e.money
    beginStep (e.setSeq { e.seq with
      wait := none
      slip := some { c with made := c.made + 1 }
      set := some { stock, pattern, times := patternTimes stock c.factor pattern, frameFee := rates.frameFee,
                    copyFee := rates.copyFee, step := 1, head := none, again := false } })

/-- The transport is in the FAULT(DOOR), NO_ROLL or LOADING of R106: the set start waits with cause ROLL while it is. In
FAULT(DOOR) always; in NO_ROLL and LOADING after the camera roll left in FAULT(DOOR) or in a TRANSPORT wait (log 27). -/
def rollAwaited (f : Film) : Bool :=
  match f.state with
  | .faultDoor => true
  | .noRoll => f.told
  | .loading => f.told
  | _ => false

/-- The set start is evaluated. While R106 has it wait for a roll it waits with cause ROLL, also with the lamp COOLING and
with a camera roll of another stock (R106, R148 step 5; how far the words reach: DEDUCED, log 27). Otherwise the checks of R97
are made in order, the first that fails giving the wait cause. -/
def evaluateSetStart (c : Current) (e : Event) : Event :=
  let len := (e.tables.pattern[c.slip.pattern]).length
  if rollAwaited e.film then enterWait .roll e
  else if e.lamp.state = .cooling then enterWait .lamp e
  else
    match cameraFrame e.film with
    | none => enterWait .roll e
    | some (i, r) =>
      if r.stock ≠ c.slip.stock then enterWait .stock e
      else
        match e.film.state with
        | .faultJam _ => enterWait .transport e
        | .ready =>
          if r.capacity + 1 - r.next < len then enterWait .roll (exhaustRoll i e)
          else if freeRecords e.records < len then enterWait .map (setFlag .map e)
          else if ceilingPasses c.slip.account len e.money = false then enterWait .account (setFlag .account e)
          else if lightingReady e.toState then beginSet e
          else awaitLighting e
        | _ => enterWait .roll e

/-! ### Proofs (R112 to R114) -/

/-- The fields of a PF card for each step: the bracket step, the time, the marks (R113). -/
def proofSteps (stock : StockEntry) (f : Factor) (pattern : List Int) : List Text :=
  pattern.flatMap fun s =>
    let t := stepTime stock f s
    [stepText s, dec t.time, marksText t.marks]

/-- The PF card of the current slip, with the stock entry and pattern as they stand (R113). -/
def pfCard (c : Current) (t : Tables) : Card :=
  { kind := txt "PF"
    fields := dec c.slip.number :: dec (proofDensity c.factor.f256) :: dec c.factor.f256 ::
      proofSteps t.stock[c.slip.stock] c.factor t.pattern[c.slip.pattern] }

/-- The waiting PF card enters the transmit queue when a place is free, and the slip ends PROOFED (R114). -/
def pfEnters (e : Event) : Event :=
  match e.line.pfWaiting with
  | some pf =>
    if txFree e.toState then
      slipEnd .proofed (e.setLine { e.line with pfWaiting := none, tx := e.line.tx ++ [pf] })
    else e
  | none => e

/-- PROVING is entered: the PF card is built, CLAMP set if a step bears one of the four marks, the lamp
extinguished; the card enters the queue or waits (R113, R114). -/
def prove (c : Current) (e : Event) : Event :=
  let marked := (patternTimes e.tables.stock[c.slip.stock] c.factor e.tables.pattern[c.slip.pattern]).any
    fun t => t.marks.clamps
  let e1 := setFlagIf marked .clamp (seqTo .proving e)
  let e2 := extinguishFor .sequencer e1
  pfEnters (e2.setLine { e2.line with pfWaiting := some (pfCard c e.tables) })

/-- The proof checks (R112). -/
def proofChecks (c : Current) (e : Event) : Event :=
  if e.lamp.state = .cooling then enterWait .lamp e
  else if lightingReady e.toState then prove c e
  else awaitLighting e

/-! ### Going on at the end of an event (R98) -/

/-- The sequencer in SET_READY goes on: outside a set the set start (RUN) or the proof checks (PROOF) are
evaluated; inside a set a LAMP wait whose lamp is OFF begins its step again (R100), when told to go on. -/
def evaluateWait (told : Bool) (e : Event) : Event :=
  match e.seq.state, e.seq.slip, e.seq.set with
  | .setReady, some c, none =>
    match e.modes.current with
    | .run => evaluateSetStart c e
    | .proof => proofChecks c e
    | .setup => e
    | .hold => e
  | .setReady, some _, some _ =>
    if told = true ∧ e.seq.wait = some .lamp ∧ e.lamp.state = .off then beginStep e else e
  | _, _, _ => e

/-- What the sequencer still has to do in the event, until nothing is left. What an evaluation itself changes does
not set off another (log 11); only a step or a set start that the event itself calls for does. `n` bounds the
rounds; the walk never needs them all (log 19). -/
def settle : Nat → Event → Event
  | 0, e => e
  | n + 1, e =>
    if e.step then settle n (compareStep { e with step := false })
    else if e.go || e.wake then
      settle n { evaluateWait e.go { e with go := false, wake := false } with wake := false }
    else e

end Sys2Proof.Machine
end

