-- ==== Sys2Proof/Machine/Arbiter.lean ====
section
/-! DEFINITION. The layout of the slip store and the arbiter (R42, R45, R47 to R51, R93), and the end of every
event: what is due when it ends. -/

namespace Sys2Proof.Machine

/-! ### Layout of the slip store (R42) -/

/-- The eight queues, in order. -/
def queues : List (Fin 8) := [0, 1, 2, 3, 4, 5, 6, 7]

/-- A queue's base: the sum of the capacities of the queues below it (R42). -/
def queueBase (t : Vector QueueEntry 8) (k : Nat) : Nat :=
  ((queues.filter fun j => decide (j.val < k)).map fun j => t[j].capacity).sum

/-- The store slot that lies `n` places after a queue's head slot in ring order (R42). -/
def ringSlot (t : Vector QueueEntry 8) (k : Fin 8) (head n : Nat) : Nat :=
  queueBase t k + (head - queueBase t k + n) % t[k].capacity

/-- The slot of a queue's slip at a place counted from 0 at the head; at the count it is the tail slot (R42). -/
def storeSlot (s : Store) (k : Fin 8) (n : Nat) : Nat := ringSlot s.table k s.rings[k].head n

/-- The store with one ring changed. -/
def changeRing (k : Fin 8) (g : Ring → Ring) (s : Store) : Store := { s with rings := s.rings.set k (g s.rings[k]) }

/-- A slip joins the tail of a queue (R40, R42). -/
def joinQueue (k : Fin 8) (c : Slip) : Store → Store := changeRing k fun r => { r with slips := r.slips ++ [c] }

/-- The head slip leaves a queue: the head slot moves one place on and the count falls by one (R42). -/
def dropHead (k : Fin 8) (s : Store) : Store :=
  changeRing k (fun r => { slips := r.slips.drop 1, head := ringSlot s.table k r.head 1 }) s

/-- All slips of the store, queue by queue. -/
def storeSlips (s : Store) : List Slip := queues.flatMap fun k => s.rings[k].slips

/-! ### The arbiter -/

/-- The three results of testing a head in RUN (R49). -/
inductive HeadTest where
  | rollFails | ceilingFails | eligible
deriving DecidableEq, Repr

/-- The stock code of the CAMERA roll. -/
def cameraStock (f : Film) : Option (Fin 8) := (cameraFrame f).map fun p => p.2.stock

/-- The tests of a head slip: in RUN the roll test, then the ceiling test (R49); in PROOF every head is eligible
(R48). -/
def testHead (c : Slip) (s : State) : HeadTest :=
  if s.modes.current = .proof then .eligible
  else if cameraStock s.film ≠ some c.stock then .rollFails
  else if ceilingPasses c.account (s.tables.pattern[c.pattern]).length s.money then .eligible
  else .ceilingFails

/-- What a run of the arbiter finds: the chosen queue with its head, and whether a head failed either test. -/
structure Choice where
  chosen : Option (Fin 8 × Slip)
  rollFailed : Bool
  ceilingFailed : Bool
deriving DecidableEq, Repr

/-- The queues are tested in order up to the first eligible head; a paused queue and an empty one are passed over
(R48). -/
def chooseHead (s : State) : List (Fin 8) → Choice
  | [] => { chosen := none, rollFailed := false, ceilingFailed := false }
  | k :: ks =>
    let rest := chooseHead s ks
    if s.store.table[k].paused then rest
    else
      match s.store.rings[k].slips with
      | [] => rest
      | c :: _ =>
        match testHead c s with
        | .eligible => { chosen := some (k, c), rollFailed := false, ceilingFailed := false }
        | .rollFails => { rest with rollFailed := true }
        | .ceilingFails => { rest with ceilingFailed := true }

/-- A slip is handed to the sequencer (R93): it becomes current with copy number 1, and the gate decides between
REMOVAL and LOADING. For a slip with a density its factor is taken; before a first metering the factor is the
model's (log 14). -/
def takeSlip (c : Slip) (e : Event) : Event :=
  let factor := match c.density with
    | some d => factorFromDensity d
    | none => { f256 := 1, mark := none }
  let e1 := e.setSeq
    { state := .idle, wait := none, set := none
      slip := some { slip := { c with cancelPending := false }, copy := 1, made := 0, incomplete := 0, factor,
                     metered := false, fresh := false } }
  if gateActive e1.toState then setFlag .remove (seqTo .removal e1) else awaitOriginal e1

/-- A run of the arbiter (R47 to R50). -/
def arbiter (e : Event) : Event :=
  if e.seq.state = .idle ∧ e.modes.current.working = true then
    let c := chooseHead e.toState queues
    match c.chosen with
    | some (k, slip) => takeSlip slip (e.setStore (dropHead k e.store))
    | none => setFlagIf c.ceilingFailed .account (setFlagIf c.rollFailed .roll e)
  else e

/-! ### The end of an event (log 10) -/

/-- Rounds of `settle` an event may take (log 19). -/
def settleRounds : Nat := 100

/-- The arbiter runs if it is due (R47). -/
def arbiterIfDue (e : Event) : Event := if e.arb then arbiter { e with arb := false } else e

/-- A report delay of 0 has expired within the event (R14). -/
def reportIfDue (e : Event) : Event := if e.ring then reportDelayEnds { e with ring := false } else e

/-- The end of an event: the sequencer goes on, the arbiter runs, the report falls due. -/
def finish (e : Event) : State := (reportIfDue (arbiterIfDue (settle settleRounds e))).toState

/-- One whole event on a state. -/
def runEvent (f : Event → Event) (s : State) : Host.Outcome State Fault Refusal := .next (finish (f s.begin))

/-- A card is taken: only while the transmit queue has a place for its reply (R9). With no place nothing is taken
and nothing changes (log 6). -/
def takeCard (f : Event → Event) (s : State) : Host.Outcome State Fault Refusal :=
  if txFree s then runEvent f s else .next s

end Sys2Proof.Machine
end

