-- ==== Sys2Proof/Machine/Stand.lean ====
section
/-! DEFINITION. What the stand does to the part: guard expiry, the gate, the door, the roll end, the mark, the
meter's ends, and the routing of counted edges (spec/04, spec/06, R122, R128 to R131, R140 to R148). -/

namespace Sys2Proof.Machine

/-! ### Inputs -/

/-- The line of an input. -/
def Inputs.line (x : Inputs) : Input → InputLine
  | .door => x.door
  | .gate => x.gate
  | .rollEnd => x.rollEnd
  | .mark => x.mark
  | .pause => x.pause

/-- The inputs with one line replaced. -/
def Inputs.put (x : Inputs) (i : Input) (l : InputLine) : Inputs :=
  match i with
  | .door => { x with door := l }
  | .gate => { x with gate := l }
  | .rollEnd => { x with rollEnd := l }
  | .mark => { x with mark := l }
  | .pause => { x with pause := l }

/-- The debounce time: 10 ms (R129). -/
def debounceTime : Nat := 10 * Config.ms

/-- A change of an input's raw level (R129): the timer is loaded when the raw level differs from the debounced
level, and stopped when it has returned to it. -/
def InputLine.rawTo (l : InputLine) (active : Bool) : InputLine :=
  if active = l.raw then l
  else { l with raw := active, timer := if active = l.debounced then none else some debounceTime }

/-- The raw level of an input changes (R129). -/
def rawChanges (i : Input) (active : Bool) (e : Event) : Event :=
  e.setInputs (e.inputs.put i ((e.inputs.line i).rawTo active))

/-! ### Guard expiry (R103, R104, R122) -/

/-- The sequencer is told that the guard has expired: an exposure is cut; a metering is lost and waits on LAMP; in
its other states nothing more (R103, R104). -/
def sequencerGuard (e : Event) : Event :=
  match e.seq.state with
  | .exposing => cutExposure e
  | .metering => if insideSet e.toState then enterSetWait .lamp e else enterWait .lamp e
  | .warming => if insideSet e.toState then enterSetWait .lamp e else enterWait .lamp e
  | _ => e

/-- The guard expires: the lamp is forced off, the shutter closes, and the lamp's user is told (R122, R128). -/
def guardExpires (e : Event) : Event :=
  let e1 := closeUnfit (forceOff e)
  match e.lamp.user with
  | some .sequencer => sequencerGuard e1
  | some .calibration => calibrationEnds e1
  | none => e1

/-! ### The meter's ends (R63 to R68, R72, R73) -/

/-- A metering fails by overrun (R68, R73): a calibration ends with nothing stored; a sequencer's lamp is
extinguished and HOLD requested. -/
def meteringFails (e : Event) : Event :=
  match e.meter.job with
  | some j =>
    let e1 := meterStops e
    match j.user with
    | .calibration => calibrationEnds e1
    | .sequencer => requestMode .hold (extinguishFor .sequencer e1)
  | none => meterStops e

/-- A calibration's result (R72): c is stored and CAL set if it lies in range, otherwise METER is set. -/
def storeCalibration (g r : Nat) (e : Event) : Event :=
  let c := (2 * 16384 * g + r) / (2 * r)
  if 8192 ≤ c ∧ c ≤ 65535 then
    setFlag .cal (e.setMeter { e.meter with entry := { e.meter.entry with cal := c } })
  else setFlag .meter e

/-- A metering ends with its gate count and hands its result to its user (R65, R67). -/
def meteringEnds (e : Event) : Event :=
  match e.meter.job with
  | some j =>
    let g := e.meter.count
    let e1 := meterStops (e.setMeter { e.meter with timeBase := 0 })
    match j.user with
    | .sequencer => lightingMetered (factorFromCounts g j.refCount j.cal) e1
    | .calibration => calibrationEnds (storeCalibration g j.refCount e1)
  | none => meterStops e

/-- The reference phase ends at the R-th pulse (R63): T is stored and the gate phase begins; with T = 0 it ends in
the same event with G = 0 (R65). -/
def referenceEnds (e : Event) : Event :=
  let t := e.meter.timeBase.natAbs
  let e1 := e.setMeter { e.meter with count := 0, lastRef := t, timeBase := - (t : Int), phase := .gate }
  if t = 0 then meteringEnds e1 else e1

/-- The reference phase overruns: LAMP is set and the metering fails (R64). The time base counter stops at what it holds,
the 1,048,576th tick uncounted, since its magnitude tops at 1,048,575; R64 does not say what it shows (DESIGN CHOICE,
log 15). -/
def referenceOverruns (e : Event) : Event := meteringFails (setFlag .lamp e)

/-- The gate phase overruns: METER is set and the metering fails (R66). -/
def gateOverruns (e : Event) : Event := meteringFails (setFlag .meter e)

/-! ### The gate (R74, R94, R96) -/

/-- The original is removed during the walk (R96). In EXPOSING the step's record is SPOILED, and the transport is asked to
advance past its frame, as after every spoiled step (R141) and so that next frame passes every frame with a record (R155);
R96 does not name the advance, and its end is not the sequencer's concern (DEDUCED, log 26). -/
def originalRemoved (e : Event) : Event :=
  let e1 := if e.seq.state = .exposing then askAdvance (spoilStep (closeShutter e)) else e
  let e2 := endSet false false (extinguishFor .sequencer e1)
  if e2.seq.slip.isSome then awaitOriginal e2 else e2

/-- The gate line becomes active: the sequencer in LOADING (R94), a calibration in flight (R74). -/
def gateRises (e : Event) : Event :=
  let e1 := if e.modes.current.working ∧ e.seq.state = .loading then originalIn e else e
  if e1.meter.calibrating then calibrationEnds (setFlag .meter e1) else e1

/-- The gate line becomes inactive: the sequencer in RUN and PROOF (R94, R96, R114). -/
def gateFalls (e : Event) : Event :=
  if e.modes.current.working then
    match e.seq.state with
    | .removal => if e.seq.slip.isSome then awaitOriginal e else (seqTo .idle e).arbiterDue
    | .warming => originalRemoved e
    | .metering => originalRemoved e
    | .setReady => originalRemoved e
    | .exposing => originalRemoved e
    | .advancing => originalRemoved e
    | .idle => e
    | .loading => e
    | .proving => e
  else e

/-! ### The transport (R140 to R148) -/

/-- The advance in flight stops: the motor is released and its timer stopped. -/
def flightStops (e : Event) : Event := e.setFilm { e.film with flight := none }

/-- The sequencer awaits the outcome of a FRAME advance (R145). -/
def awaitsAdvance (k : AdvanceKind) (e : Event) : Bool := decide (k = .frame ∧ e.seq.state = .advancing)

/-- The advance in flight ends with success (R142): a FRAME advance raises next frame; the transport is READY. -/
def advanceEnds (e : Event) : Event :=
  match e.film.flight with
  | none => e
  | some a =>
    let e1 := filmTo .ready (flightStops e)
    let e2 :=
      if a.kind = .frame then
        match cameraSlot e1.film with
        | some i => setRoll i (fun r => { r with next := r.next + 1 }) e1
        | none => e1
      else e1
    if awaitsAdvance a.kind e2 then advanceSucceeded e2 else e2

/-- The advance in flight ends as a jam (R143). -/
def advanceJams (e : Event) : Event :=
  match e.film.flight with
  | none => e
  | some a =>
    let e1 := setFlag .jam (filmTo (.faultJam a.kind) (flightStops e))
    if awaitsAdvance a.kind e1 then advanceStopped e1 else e1

/-- The roll end is seen (R144): an advance in flight ends in SUSPENDED(SENSOR). -/
def rollEndRises (e : Event) : Event :=
  match e.film.flight with
  | none => e
  | some a =>
    let e1 := setFlag .roll (filmTo (.suspSensor a.kind) (flightStops e))
    if awaitsAdvance a.kind e1 then advanceStopped e1 else e1

/-- The sequencer is told of a door opening (R106): a set in progress ends INCOMPLETE; outside a set a waiting set
start is evaluated again. -/
def sequencerDoor (e : Event) : Event :=
  if insideSet e.toState then endSet false false (closeShutter e) else e.woken

/-- The camera roll is fogged by the door (R148, steps 2 to 5). -/
def doorFogs (e : Event) : Event :=
  let e1 :=
    match cameraSlot e.film with
    | some i => fogRoll i (setRoll i (fun r => { r with fogged := true }) e)
    | none => e
  sequencerDoor (setFlag .door (filmTo .faultDoor e1))

/-- The door opens (R140, R148). The withdrawal of a leader advance wakes a waiting set start, though the state stays LOADING
(log 28). -/
def doorOpens (e : Event) : Event :=
  match e.film.state with
  | .noRoll => e
  | .faultDoor => e
  | .loading => if e.film.flight.isSome then flightStops e else e
  | .ready => doorFogs (flightStops e)
  | .advancing => doorFogs (flightStops e)
  | .suspFrames => doorFogs (flightStops e)
  | .suspSensor _ => doorFogs (flightStops e)
  | .suspLost => doorFogs (flightStops e)
  | .faultJam _ => doorFogs (flightStops e)

/-- The door closes: a roll waiting in LOADING begins its leader advance (R140), which wakes a waiting set start, though the
state stays LOADING (log 28). -/
def doorCloses (e : Event) : Event :=
  if e.film.state = .loading ∧ e.film.flight = none then startAdvance .leader e else e

/-- A MARK edge of the STAND kind reaches the transport: it ends the advance that reads that edge (R142). -/
def markEdge (k : EdgeKind) (e : Event) : Event :=
  match e.film.flight with
  | some a => if a.edge = k then advanceEnds e else e
  | none => e

/-! ### Counted edges (R129 to R131) -/

/-- Whether an event edge setting matches an edge (R131). -/
def edgeMatches (setting : EventEdge) (k : EdgeKind) : Bool :=
  match setting, k with
  | .both, _ => true
  | .rise, .rise => true
  | .fall, .fall => true
  | _, _ => false

/-- Whether a counted edge of an input puts on its edge-seen mark: by its event edge, or for MARK by the STAND
mark edge (R131). -/
def edgeSeenBy (st : StandEntry) (i : Input) (k : EdgeKind) : Bool :=
  match i with
  | .door => edgeMatches st.doorEdge k
  | .gate => edgeMatches st.gateEdge k
  | .rollEnd => edgeMatches st.rollEndEdge k
  | .pause => edgeMatches st.pauseEdge k
  | .mark => decide (st.markEdge = k)

/-- The event flag of a matching edge (R131); GATE and MARK have none. -/
def edgeFlag (i : Input) (e : Event) : Event :=
  match i with
  | .door => setFlag .door e
  | .rollEnd => setFlag .roll e
  | .pause => setFlag .pause e
  | .gate => e
  | .mark => e

/-- A counted edge is handed to the blocks that act on it (R130); the shutter has closed before (R128). -/
def routeEdge (i : Input) (k : EdgeKind) (e : Event) : Event :=
  match i, k with
  | .door, .rise => doorOpens e
  | .door, .fall => doorCloses e
  | .gate, .rise => gateRises e
  | .gate, .fall => gateFalls e
  | .rollEnd, .rise => rollEndRises e
  | .rollEnd, .fall => e
  | .mark, _ => if e.stand.markEdge = k then markEdge k e else e
  | .pause, .rise => requestMode .hold e
  | .pause, .fall => e

/-- An input's edge is counted (R129): the level is taken, the shutter closes if a condition ceased (R128), a
matching edge sets its mark and flag (R131), and the edge is routed (R130). -/
def countEdge (i : Input) (k : EdgeKind) (e : Event) : Event :=
  let l := e.inputs.line i
  let seen := edgeSeenBy e.stand i k
  let e1 := closeUnfit (e.setInputs (e.inputs.put i
    { l with debounced := decide (k = .rise), timer := none, edgeSeen := l.edgeSeen || seen }))
  routeEdge i k (if seen then edgeFlag i e1 else e1)

/-- The debounce timer of an input expires (R129): the debounced level takes the raw level. -/
def debounceEnds (i : Input) (e : Event) : Event :=
  let l := e.inputs.line i
  if l.raw = l.debounced then e.setInputs (e.inputs.put i { l with timer := none })
  else countEdge i (if l.raw then .rise else .fall) e

end Sys2Proof.Machine
end

