-- ==== Sys2Proof/Machine/Cards.lean ====
section
/-! DEFINITION. What each card from the console does, but for table writes and queries: SL, CN, MD, CB, RL, UL,
RT, DR, KP, RS, CL, SE (spec/02, spec/03, spec/04, spec/08, spec/09, spec/11). -/

namespace Sys2Proof.Machine

/-! ### SL (R34 to R40) -/

/-- A slip number is in use by a slip in the store or the current slip (R36). -/
def numberTaken (n : Nat) (s : State) : Bool :=
  (storeSlips s.store).any (fun c => decide (c.number = n))
    || match s.seq.slip with | some c => decide (c.slip.number = n) | none => false

/-- A refusal counter, stopped at its top (R57). -/
def countUp (n : Nat) : Nat := if n < Config.refusalTop then n + 1 else n

/-- The slip record of an admitted card (R34). -/
def SlipFields.toSlip (f : SlipFields) (account : Fin 64) : Slip :=
  { number := f.number, account, queue := f.queue, catalog := f.catalog, title := f.title, copies := f.copies,
    stock := f.stock, pattern := f.pattern, format := f.format, density := f.density, cancelPending := false }

/-- A slip refused ACCOUNT (R37). -/
def refuseAccount (e : Event) : Event :=
  setFlag .refused (e.setStore { e.store with unknownAccount := countUp e.store.unknownAccount })

/-- A slip refused FULL for a queue (R39). -/
def refuseFull (k : Fin 8) (e : Event) : Event :=
  setFlag .refused (e.setStore { e.store with
    queueFull := countUp e.store.queueFull, overflowed := e.store.overflowed.set k true })

/-- An SL card: the refusals of R35 to R39 in order, or the admission of R40. -/
def cardSl (fields : List Text) (e : Event) : Event :=
  let kind := txt "SL"
  let key := keyTexts 1 fields
  match slipFields fields with
  | none => replyNo kind key .field e
  | some f =>
    if (e.tables.stock[f.stock]).base = 0 then replyNo kind key .field e
    else if numberTaken f.number e.toState then replyNo kind key .duplicate e
    else
      match openAccount f.code e.money.accounts with
      | none => replyNo kind key .account (refuseAccount e)
      | some i =>
        if (e.store.table[f.queue]).capacity = 0 then replyNo kind key .queue e
        else if (e.store.table[f.queue]).capacity ≤ (e.store.rings[f.queue]).slips.length then
          replyNo kind key .full (refuseFull f.queue e)
        else
          replyOk kind [natKey (fields.getD 0 []) f.number]
            (e.setStore (joinQueue f.queue (f.toSlip i) e.store)).arbiterDue

/-! ### CN (R52, R53) -/

/-- The queue that holds a slip number, if any. -/
def queueOf (n : Nat) (s : Store) : Option (Fin 8) :=
  queues.find? fun k => (s.rings[k]).slips.any fun c => decide (c.number = n)

/-- A slip leaves its queue (R52): the head slot moves on if it was the head, and otherwise the slips behind it
close up. -/
def removeSlip (k : Fin 8) (n : Nat) (s : Store) : Store :=
  match (s.rings[k]).slips with
  | [] => s
  | c :: _ =>
    if c.number = n then dropHead k s
    else changeRing k (fun r => { r with slips := r.slips.filter fun c => decide (c.number ≠ n) }) s

/-- The current slip is cancelled (R53, R109): outside a set it ends CANCELLED at once, a PF card that waits being
withdrawn (R114); inside a set cancel pending becomes YES. -/
def cancelCurrent (e : Event) : Event :=
  if insideSet e.toState then changeCurrent (fun c => { c with slip := { c.slip with cancelPending := true } }) e
  else slipEnd .cancelled (e.setLine { e.line with pfWaiting := none })

/-- A CN card (R52, R53). -/
def cardCn (fields : List Text) (e : Event) : Event :=
  let kind := txt "CN"
  match oneField (natField 1 65535) fields with
  | none => replyNo kind (keyTexts 1 fields) .field e
  | some n =>
    let ok := replyOk kind [natKey (fields.getD 0 []) n]
    match queueOf n e.store with
    | some k =>
      ok (appendEnded { slip := n, ending := .cancelled, made := 0, incomplete := 0 }
        (e.setStore (removeSlip k n e.store))).arbiterDue
    | none =>
      match e.seq.slip with
      | some c => if c.slip.number = n then ok (cancelCurrent e).arbiterDue else replyNo kind (keyTexts 1 fields) .unknown e
      | none => replyNo kind (keyTexts 1 fields) .unknown e

/-! ### MD (R22) and CB (R70) -/

/-- An MD card (R22). -/
def cardMd (fields : List Text) (e : Event) : Event :=
  match oneField modeOf fields with
  | none => replyNo (txt "MD") (keyTexts 1 fields) .field e
  | some m => requestMode m (replyOk (txt "MD") [modeWord m] e)

/-- A CB card (R70). -/
def cardCb (fields : List Text) (e : Event) : Event :=
  let kind := txt "CB"
  if fields ≠ [] then replyNo kind [] .field e
  else if e.modes.current ≠ .setup then replyNo kind [] .mode e
  else if e.meter.calibrating = true ∨ e.meter.phase ≠ .idle ∨ gateActive e.toState = true then replyNo kind [] .state e
  else if e.lamp.state = .cooling then replyNo kind [] .busy e
  else lightLamp .calibration (replyOk kind [] (e.setMeter { e.meter with calibrating := true }))

/-! ### RL, UL, RT, DR (R139, R149 to R151) -/

/-- The lowest EMPTY slot. -/
def emptyRollSlot (f : Film) : Option (Fin 4) := slots.find? fun i => (f.rolls[i]).isNone

/-- A roll is loaded: its slot becomes CAMERA and the transport LOADING (R139). -/
def loadRoll (i : Fin 4) (number : Nat) (stock : Fin 8) (capacity : Nat) (e : Event) : Event :=
  e.setFilm { e.film with
    state := .loading, flight := none
    rolls := e.film.rolls.set i (some { state := .camera, number, stock, capacity, next := 1, fogged := false }) }

/-- An RL card (R139). -/
def cardRl (fields : List Text) (e : Event) : Event :=
  let kind := txt "RL"
  let key := keyTexts 1 fields
  match rollFields fields with
  | none => replyNo kind key .field e
  | some (number, stock, capacity) =>
    if (e.tables.stock[stock]).base = 0 then replyNo kind key .field e
    else if e.film.state ≠ .noRoll then replyNo kind key .state e
    else
      match emptyRollSlot e.film with
      | none => replyNo kind key .slot e
      | some i =>
        if (slotOfRoll number e.film).isSome then replyNo kind key .duplicate e
        else
          let e1 := loadRoll i number stock capacity e
          let e2 := if e1.inputs.door.debounced then e1 else startAdvance .leader e1
          (replyOk kind [natKey (fields.getD 0 []) number] e2).arbiterDue

/-- The sequencer is waiting with cause TRANSPORT, inside a set or outside one. -/
def inTransportWait (s : State) : Bool := decide (s.seq.state = .setReady) && decide (s.seq.wait = some .transport)

/-- The sequencer waits inside a set with cause TRANSPORT. -/
def waitsTransport (s : State) : Bool :=
  insideSet s && inTransportWait s

/-- The camera roll leaves: its slot becomes EMPTY if it was still LOADING, and AWAY otherwise (R149). A roll that leaves in
FAULT(DOOR), after it, or in a TRANSPORT wait has the set start wait with cause ROLL (R106, log 27). -/
def unloadRoll (waited : Bool) (e : Event) : Event :=
  let e1 :=
    match cameraSlot e.film with
    | none => e
    | some i => if e.film.state = FilmState.loading then emptySlot i e else setRoll i (fun r => { r with state := .away }) e
  e1.setFilm { e1.film with state := .noRoll, flight := none, told := waited || rollAwaited e.film }

/-- A UL card (R149). In a TRANSPORT wait the set ends INCOMPLETE, and the set start that follows waits with cause ROLL
(R106). -/
def cardUl (fields : List Text) (e : Event) : Event :=
  let kind := txt "UL"
  if fields ≠ [] then replyNo kind [] .field e
  else if e.film.state = .noRoll then replyNo kind [] .state e
  else if insideSet e.toState = true ∧ waitsTransport e.toState = false then replyNo kind [] .busy e
  else (replyOk kind [] (unloadRoll (inTransportWait e.toState) (endSet false false e))).arbiterDue

/-- A roll is returned (R150): it joins the return order, the automatic decisions are made, and if no slot is
MOUNTING the head of the order is handed over. -/
def returnRoll (i : Fin 4) (e : Event) : Event :=
  let e1 := setRoll i (fun r => { r with state := .returned }) e
  let e2 := autoDecide i (e1.setFilm { e1.film with order := e1.film.order ++ [i] })
  if (mountingSlot e2.film).isSome then e2 else handOver e2

/-- An RT card (R150). -/
def cardRt (fields : List Text) (e : Event) : Event :=
  let kind := txt "RT"
  let key := keyTexts 1 fields
  match oneField (natField 1 9999) fields with
  | none => replyNo kind key .field e
  | some n =>
    match slotOfRoll n e.film with
    | none => replyNo kind key .unknown e
    | some i =>
      if (e.film.rolls[i]).map Roll.state = some .away then
        (replyOk kind [natKey (fields.getD 0 []) n] (returnRoll i e)).arbiterDue
      else replyNo kind key .state e

/-- The printer awaits an answer for a label of a slot: SENT or STOPPED(SILENT), the spool's head being of that
slot (R151). -/
def awaitsAnswerFor (i : Fin 4) (l : Labels) : Bool :=
  (match l.printer with
    | .sending => true
    | .sent => true
    | .stopped .silent => true
    | _ => false)
    && match l.spool with | entry :: _ => decide (entry.slot = i) | [] => false

/-- A roll is dropped (R151): its records and labels go, its slot is EMPTY, and the transport or the MOUNTING
place it held is free. A CAMERA roll is dropped in FAULT(DOOR) alone, so the set start goes on waiting with cause ROLL
(R106). -/
def dropRoll (i : Fin 4) (r : Roll) (e : Event) : Event :=
  let e1 := removeRoll postReversal i e
  let e2 := e1.setLabels { e1.labels with spool := e1.labels.spool.filter fun l => decide (l.slot ≠ i) }
  let e3 := emptySlot i e2
  let e4 :=
    if r.state = .camera then e3.setFilm { e3.film with state := .noRoll, flight := none, told := rollAwaited e.film } else e3
  if r.isMounting then handOver e4 else e4

/-- A DR card (R151). -/
def cardDr (fields : List Text) (e : Event) : Event :=
  let kind := txt "DR"
  let key := keyTexts 1 fields
  match oneField (natField 1 9999) fields with
  | none => replyNo kind key .field e
  | some n =>
    match slotOfRoll n e.film with
    | none => replyNo kind key .unknown e
    | some i =>
      match e.film.rolls[i] with
      | none => replyNo kind key .unknown e
      | some r =>
        if r.state = .camera ∧ e.film.state ≠ .faultDoor then replyNo kind key .state e
        else if awaitsAnswerFor i e.labels then replyNo kind key .busy e
        else (replyOk kind [natKey (fields.getD 0 []) n] (dropRoll i r e)).arbiterDue

/-! ### KP (R161, R162) -/

/-- A decision on the MOUNTING roll is made known: the spool feeds and close-out is checked (R160, R164). -/
def decisionMade (r : Roll) (e : Event) : Event := if r.isMounting then checkCloseOut (feed e) else e

/-- A KP card (R161, R162). -/
def cardKp (fields : List Text) (e : Event) : Event :=
  let kind := txt "KP"
  let key := keyTexts 2 fields
  match keepFields fields with
  | none => replyNo kind key .field e
  | some (n, frame, keep) =>
    match slotOfRoll n e.film with
    | none => replyNo kind key .unknown e
    | some i =>
      match e.film.rolls[i] with
      | none => replyNo kind key .unknown e
      | some r =>
        if r.state ≠ .returned ∧ r.isMounting = false then replyNo kind key .state e
        else
          match recordAt i frame e.records with
          | none => replyNo kind key .unknown e
          | some x =>
            if setLate r i x.head e.records then replyNo kind key .late e
            else if keep = true ∧ x.kind ≠ .exposed then replyNo kind key .state e
            else
              replyOk kind [natKey (fields.getD 0 []) n, natKey (fields.getD 1 []) frame]
                (decisionMade r (decideSet i x.head (if keep then some frame else none) e))

/-! ### RS (R147) -/

/-- A retried advance, as told to a sequencer that waits inside a set on TRANSPORT: it returns to ADVANCING and an
outcome of this event is taken at once (R147). -/
def tellRetry (k : AdvanceKind) (waited : Bool) (e : Event) : Event :=
  if waited = true ∧ k = .frame then
    let e1 := seqTo .advancing e
    if e1.film.state = .advancing then e1 else advanceStopped e1
  else e

/-- An RS card (R147). -/
def cardRs (fields : List Text) (e : Event) : Event :=
  let kind := txt "RS"
  if fields ≠ [] then replyNo kind [] .field e
  else
    let waited := waitsTransport e.toState
    let doorOpen := e.inputs.door.debounced
    match e.film.state with
    | .faultJam k =>
      if doorOpen then replyNo kind [] .state e else replyOk kind [] (tellRetry k waited (startAdvance k e))
    | .suspSensor k =>
      if e.inputs.rollEnd.debounced then replyNo kind [] .state e
      else replyOk kind [] (tellRetry k waited (startAdvance k e))
    | .suspLost =>
      if doorOpen then replyNo kind [] .state e
      else replyOk kind [] (tellRetry .frame waited (judgeFrameAdvance e))
    | _ => replyNo kind [] .state e

/-! ### CL (R17) and SE (R198) -/

/-- A CL card (R17): the named flags are cleared; with REFUSED among them, every overflowed mark too (R44). -/
def cardCl (fields : List Text) (e : Event) : Event :=
  match clearFields fields with
  | none => replyNo (txt "CL") [] .field e
  | some fs =>
    let e1 := clearFlags fs e
    replyOk (txt "CL") []
      (if fs.contains .refused then e1.setStore { e1.store with overflowed := Vector.replicate 8 false } else e1)

/-- An SE card (R198). -/
def cardSe (fields : List Text) (e : Event) : Event :=
  match oneField codeField fields with
  | none => replyNo (txt "SE") (keyTexts 1 fields) .field e
  | some code =>
    match heldAccount code e.money.accounts with
    | none => replyNo (txt "SE") (keyTexts 1 fields) .unknown e
    | some i =>
      let a := e.money.accounts[i]
      let e1 := replyAn (txt "SE") [code] [dec a.final, wordIf a.saturated (txt "SATURATED")] e
      (posted (changeAccount i fun a => { a with final := 0, saturated := false }) e1).arbiterDue

end Sys2Proof.Machine
end

