-- ==== Sys2Proof/Machine/CardCommands.lean ====
section
/-! DEFINITION. The meanings of the console's cards, tables and queries apart. Each takes one event while the transmit
queue has a place for its reply (R9). -/

namespace Sys2Proof.Machine

/-- SL (R34 to R40). -/
def execSl (fields : List Text) (s : State) : Host.Outcome State Fault Refusal := takeCard (cardSl fields) s

/-- CN (R52, R53). -/
def execCn (fields : List Text) (s : State) : Host.Outcome State Fault Refusal := takeCard (cardCn fields) s

/-- MD (R22). -/
def execMd (fields : List Text) (s : State) : Host.Outcome State Fault Refusal := takeCard (cardMd fields) s

/-- CB (R70). -/
def execCb (fields : List Text) (s : State) : Host.Outcome State Fault Refusal := takeCard (cardCb fields) s

/-- RL (R139). -/
def execRl (fields : List Text) (s : State) : Host.Outcome State Fault Refusal := takeCard (cardRl fields) s

/-- UL (R149). -/
def execUl (fields : List Text) (s : State) : Host.Outcome State Fault Refusal := takeCard (cardUl fields) s

/-- RT (R150). -/
def execRt (fields : List Text) (s : State) : Host.Outcome State Fault Refusal := takeCard (cardRt fields) s

/-- DR (R151). -/
def execDr (fields : List Text) (s : State) : Host.Outcome State Fault Refusal := takeCard (cardDr fields) s

/-- KP (R161, R162). -/
def execKp (fields : List Text) (s : State) : Host.Outcome State Fault Refusal := takeCard (cardKp fields) s

/-- RS (R147). -/
def execRs (fields : List Text) (s : State) : Host.Outcome State Fault Refusal := takeCard (cardRs fields) s

/-- CL (R17). -/
def execCl (fields : List Text) (s : State) : Host.Outcome State Fault Refusal := takeCard (cardCl fields) s

/-- SE (R198). -/
def execSe (fields : List Text) (s : State) : Host.Outcome State Fault Refusal := takeCard (cardSe fields) s

end Sys2Proof.Machine
end

