-- ==== Sys2Proof/Machine/Queries.lean ====
section
/-! DEFINITION. What each QY card answers and, for COUNTERS, INPUTS and ENDED, changes (R12, R18, R21, R31, R41, R43,
R46, R56, R57, R60, R78, R81, R82, R84, R115, R132, R136, R167, R170, R199). -/

namespace Sys2Proof.Machine

/-- A refused query: its subject and its `n` arguments as received, then the reason (R8, R12). -/
def queryNo (subject : Text) (n : Nat) (args : List Text) (r : Reason) (e : Event) : Event :=
  replyNo (txt "QY") (subject :: keyTexts n args) r e

/-- An answered query: its subject and arguments, then the answer (R8, R12). -/
def queryAn (subject : Text) (key answer : List Text) (e : Event) : Event :=
  replyAn (txt "QY") (subject :: key) answer e

/-- A query with no argument: any argument is refused FIELD (R12). -/
def plainQuery (subject : Text) (args : List Text) (answer : State → List Text) (change : Event → Event)
    (e : Event) : Event :=
  if args = [] then change (queryAn subject [] (answer e.toState) e) else queryNo subject 0 args .field e

/-! ### MODE (R21), CURRENT (R115), EVENTS (R18) -/

/-- The answer of QY MODE. -/
def modeAnswer (s : State) : List Text :=
  [modeWord s.modes.requested, modeWord s.modes.current, changeWord s.modes.change]

/-- QY MODE. -/
def cardQyMode (args : List Text) : Event → Event := plainQuery (txt "MODE") args modeAnswer id

/-- The answer of QY CURRENT. -/
def currentAnswer (s : State) : List Text :=
  [seqStateWord s.seq.state, waitWord s.seq.wait,
   optText (s.seq.slip.map fun c => dec c.slip.number),
   optText (s.seq.slip.map fun c => dec c.copy),
   optText (s.seq.set.map fun x => dec x.step)]

/-- QY CURRENT. -/
def cardQyCurrent (args : List Text) : Event → Event := plainQuery (txt "CURRENT") args currentAnswer id

/-- The answer of QY EVENTS: the set flags, the report state, the flags not enabled. -/
def eventsAnswer (s : State) : List Text :=
  s.line.flags.map flagWord ++ [reportWord s.line.report]
    ++ (Flag.all.filter fun f => !s.stand.enables.contains f).map fun f => '-' :: flagWord f

/-- QY EVENTS. -/
def cardQyEvents (args : List Text) : Event → Event := plainQuery (txt "EVENTS") args eventsAnswer id

/-! ### QUEUE (R43), SLIP (R46), COUNTERS (R57), ENDED (R56) -/

/-- The answer of QY QUEUE. -/
def queueAnswer (k : Fin 8) (s : State) : List Text :=
  let q := s.store.table[k]
  let count := (s.store.rings[k]).slips.length
  [dec q.capacity, dec count, if q.capacity = 0 then [] else dec (s.store.rings[k]).head, yesNo q.paused,
   wordIf (decide (1 ≤ count)) (txt "NONEMPTY"),
   wordIf (decide (1 ≤ q.capacity ∧ (q.capacity + 1) / 2 ≤ count)) (txt "HALF"),
   wordIf (decide (1 ≤ q.capacity ∧ count = q.capacity)) (txt "FULL"),
   wordIf s.store.overflowed[k] (txt "OVERFLOWED")]

/-- QY QUEUE. -/
def cardQyQueue (args : List Text) (e : Event) : Event :=
  match oneField (finField 8) args with
  | none => queryNo (txt "QUEUE") 1 args .field e
  | some k => queryAn (txt "QUEUE") [natKey (args.getD 0 []) k.val] (queueAnswer k e.toState) e

/-- A slip's fields in SL order from account code to density. -/
def slipTexts (c : Slip) (a : Accounts) : List Text :=
  [optText a[c.account].code, dec c.queue.val, c.catalog, optText c.title, dec c.copies, dec c.stock.val,
   dec c.pattern.val, dec c.format.val, optText (c.density.map dec)]

/-- Where a slip of a number waits: its queue, its position from 1 at the head, and the slip. -/
def slipInStore (n : Nat) (s : Store) : Option (Fin 8 × Nat × Slip) :=
  queues.findSome? fun k =>
    ((s.rings[k]).slips.zipIdx.find? fun p => decide (p.1.number = n)).map fun p => (k, p.2 + 1, p.1)

/-- The answer of QY SLIP, if the slip is in the store or current. -/
def slipAnswer (n : Nat) (s : State) : Option (List Text) :=
  match slipInStore n s.store with
  | some (k, place, c) => some (dec k.val :: dec place :: slipTexts c s.money.accounts ++ [yesNo false])
  | none =>
    match s.seq.slip with
    | some c =>
      if c.slip.number = n then
        some (txt "CURRENT" :: [] :: slipTexts c.slip s.money.accounts ++ [yesNo c.slip.cancelPending])
      else none
    | none => none

/-- QY SLIP. -/
def cardQySlip (args : List Text) (e : Event) : Event :=
  match oneField (natField 1 65535) args with
  | none => queryNo (txt "SLIP") 1 args .field e
  | some n =>
    match slipAnswer n e.toState with
    | none => queryNo (txt "SLIP") 1 args .unknown e
    | some answer => queryAn (txt "SLIP") [natKey (args.getD 0 []) n] answer e

/-- The answer of QY COUNTERS. -/
def countersAnswer (s : State) : List Text := [dec s.store.unknownAccount, dec s.store.queueFull]

/-- Both counters become 0. -/
def zeroCounters (e : Event) : Event := e.setStore { e.store with unknownAccount := 0, queueFull := 0 }

/-- QY COUNTERS. -/
def cardQyCounters (args : List Text) : Event → Event := plainQuery (txt "COUNTERS") args countersAnswer zeroCounters

/-- Entries a QY ENDED answer carries at most. -/
def endedAnswered : Nat := 8

/-- The answer of QY ENDED: the oldest entries, four fields each, then the number left. -/
def endedAnswer (s : State) : List Text :=
  (s.store.ended.take endedAnswered).flatMap (fun c => [dec c.slip, endingWord c.ending, dec c.made, dec c.incomplete])
    ++ [dec (s.store.ended.drop endedAnswered).length]

/-- The entries answered are removed. -/
def dropAnswered (e : Event) : Event := e.setStore { e.store with ended := e.store.ended.drop endedAnswered }

/-- QY ENDED. -/
def cardQyEnded (args : List Text) : Event → Event := plainQuery (txt "ENDED") args endedAnswer dropAnswered

/-! ### ROLL (R136), FRAMES (R167) -/

/-- A slot's place in the return order, counted from 1 at the head. -/
def returnPlace (i : Fin 4) (order : List (Fin 4)) : Nat := order.findIdx (fun j => decide (j = i)) + 1

/-- The answer of QY ROLL. -/
def rollAnswer (i : Fin 4) (r : Roll) (f : Film) : List Text :=
  [dec i.val, rollStateWord r.state, dec r.stock.val, dec r.capacity, dec r.next, wordIf r.fogged (txt "FOGGED"),
   if r.state = .camera then filmWord f.state else [],
   if r.state = .camera then filmCauseWord f.state else [],
   if r.state = .returned then dec (returnPlace i f.order) else [],
   match r.state with
   | .mounting cursor => dec cursor
   | .camera => []
   | .away => []
   | .returned => []]

/-- QY ROLL. -/
def cardQyRoll (args : List Text) (e : Event) : Event :=
  match oneField (natField 1 9999) args with
  | none => queryNo (txt "ROLL") 1 args .field e
  | some n =>
    match slotOfRoll n e.film with
    | none => queryNo (txt "ROLL") 1 args .unknown e
    | some i =>
      match e.film.rolls[i] with
      | none => queryNo (txt "ROLL") 1 args .unknown e
      | some r => queryAn (txt "ROLL") [natKey (args.getD 0 []) n] (rollAnswer i r e.film) e

/-- The fields 16 to 21 of a record: its set head data, or six empty fields (R167). -/
def headTexts : Option SetHead → List Text
  | some d => [statusWord d.status, d.catalog, optText d.title, dec d.format.val, d.tag, dec d.copyFee]
  | none => [[], [], [], [], [], []]

/-- The 21 fields of a record (R167). -/
def recordTexts (a : Accounts) (r : Record) : List Text :=
  [dec r.frame, frameKindWord r.kind, dec r.slip, optText a[r.account].code, dec r.copy, dec r.copies, dec r.head,
   dec r.step, stepText r.bracket, dec r.time, marksText r.marks, dec r.fee, decisionWord r.decision,
   labelStateWord r.label, chargeWord r.charge] ++ headTexts r.data

/-- Records a QY FRAMES answer carries at most. -/
def framesAnswered : Nat := 8

/-- The records of a slot with frame numbers from `lo` through `hi`, lowest first. -/
def recordsIn (i : Fin 4) (lo hi : Nat) (rs : List Record) : List Record :=
  rs.filter fun r => decide (r.slot = i ∧ lo ≤ r.frame ∧ r.frame ≤ hi)

/-- The answer of QY FRAMES: up to 8 records, then NEXT (R12, R167). -/
def framesAnswer (i : Fin 4) (lo hi : Nat) (s : State) : List Text :=
  let rs := recordsIn i lo hi s.records
  (rs.take framesAnswered).flatMap (recordTexts s.money.accounts)
    ++ [optText ((rs.drop framesAnswered).head?.map fun r => dec r.frame)]

/-- QY FRAMES. -/
def cardQyFrames (args : List Text) (e : Event) : Event :=
  match framesArgs args with
  | none => queryNo (txt "FRAMES") 3 args .field e
  | some (n, lo, hi) =>
    match slotOfRoll n e.film with
    | none => queryNo (txt "FRAMES") 3 args .unknown e
    | some i =>
      queryAn (txt "FRAMES")
        [natKey (args.getD 0 []) n, natKey (args.getD 1 []) lo, natKey (args.getD 2 []) hi]
        (framesAnswer i lo hi e.toState) e

/-! ### ACCOUNT (R199), INPUTS (R132) -/

/-- QY ACCOUNT (R12, R199). An argument that is not four characters A–Z or 0–9, a shorter code among them, is refused FIELD
and not UNKNOWN (DEDUCED, log 29). -/
def cardQyAccount (args : List Text) (e : Event) : Event :=
  match oneField codeField args with
  | none => queryNo (txt "ACCOUNT") 1 args .field e
  | some code =>
    match heldAccount code e.money.accounts with
    | none => queryNo (txt "ACCOUNT") 1 args .unknown e
    | some i => queryAn (txt "ACCOUNT") [code] (dec i.val :: (accountTexts e.money.accounts[i]).drop 1) e

/-- The two answer fields of an input. -/
def inputTexts (l : InputLine) : List Text := [levelWord l.debounced, wordIf l.edgeSeen (txt "EDGE")]

/-- The answer of QY INPUTS. -/
def inputsAnswer (s : State) : List Text :=
  inputTexts s.inputs.door ++ inputTexts s.inputs.gate ++ inputTexts s.inputs.rollEnd ++ inputTexts s.inputs.mark
    ++ inputTexts s.inputs.pause

/-- An input with its edge-seen mark off. -/
def InputLine.unseen (l : InputLine) : InputLine := { l with edgeSeen := false }

/-- Every edge-seen mark is cleared. -/
def clearSeen (e : Event) : Event :=
  e.setInputs { door := e.inputs.door.unseen, gate := e.inputs.gate.unseen, rollEnd := e.inputs.rollEnd.unseen,
                mark := e.inputs.mark.unseen, pause := e.inputs.pause.unseen }

/-- QY INPUTS. -/
def cardQyInputs (args : List Text) : Event → Event := plainQuery (txt "INPUTS") args inputsAnswer clearSeen

/-! ### TABLE (R12) -/

/-- A QY TABLE card of one table: its index, and the entry's fields. -/
def tableQuery (name : Text) (n : Nat) (entry : Fin n → State → List Text) (args : List Text) (e : Event) : Event :=
  match oneField (finField n) args with
  | none => replyNo (txt "QY") [txt "TABLE", name, args.getD 0 []] .field e
  | some i =>
    replyAn (txt "QY") [txt "TABLE", name, natKey (args.getD 0 []) i.val] (entry i e.toState) e

/-- QY TABLE DENSITY (R78). -/
def cardQyTableDensity (args : List Text) : Event → Event :=
  tableQuery (txt "DENSITY") 100 (fun i _ => [dec (densityEntry i.val)]) args

/-- QY TABLE BRACKET (R81). -/
def cardQyTableBracket (args : List Text) (e : Event) : Event :=
  match oneField (intField (-6) 6) args with
  | none => replyNo (txt "QY") [txt "TABLE", txt "BRACKET", args.getD 0 []] .field e
  | some v =>
    replyAn (txt "QY") [txt "TABLE", txt "BRACKET", numberKey (args.getD 0 []) v (stepText v)]
      [dec (bracketFactor v)] e

/-- QY TABLE with a table name and an index; a name that is none of the ten is refused FIELD (R12). -/
def cardQyTable (args : List Text) : Event → Event :=
  let name := args.getD 0 []
  let index := args.drop 1
  if args = [] then replyNo (txt "QY") [txt "TABLE", [], []] .field
  else if name = txt "STAND" then tableQuery name 1 (fun _ s => standTexts s.stand) index
  else if name = txt "QUEUE" then tableQuery name 8 (fun i s => queueTexts s.store.table[i]) index
  else if name = txt "METER" then tableQuery name 1 (fun _ s => meterTexts s.meter.entry) index
  else if name = txt "STOCK" then tableQuery name 8 (fun i s => stockTexts s.tables.stock[i]) index
  else if name = txt "PATTERN" then tableQuery name 16 (fun i s => patternTexts s.tables.pattern[i]) index
  else if name = txt "FORMAT" then tableQuery name 8 (fun i s => formatTexts s.labels.formats[i]) index
  else if name = txt "ACCOUNT" then tableQuery name 64 (fun i s => accountTexts s.money.accounts[i]) index
  else if name = txt "RATE" then tableQuery name 4 (fun i s => rateTexts s.money.rates[i]) index
  else if name = txt "DENSITY" then cardQyTableDensity index
  else if name = txt "BRACKET" then cardQyTableBracket index
  else replyNo (txt "QY") [txt "TABLE", name, index.getD 0 []] .field

end Sys2Proof.Machine
end

