-- ==== Sys2Proof/Machine/TableWrites.lean ====
section
/-! DEFINITION. What each TB card does: the checks of R11 and of the table's owner, the write, and what an accepted
write sets in motion (R11, R32, R41, R45, R61, R82, R85, R124, R170, R187, R190). -/

namespace Sys2Proof.Machine

/-- How the owner of a table judges a write: the refusal, or the write itself. -/
abbrev Judgement := Except Reason (Event → Event)

/-- A TB card of a table of `n` entries (R11): the index first, then the owner's judgement of the entry fields. An
accepted write is answered OK with the table name and the index, a waiting set start is evaluated again (R98) and
the arbiter runs (R47). -/
def tableWrite (name : Text) (n : Nat) (judge : Fin n → List Text → State → Judgement) (fields : List Text)
    (e : Event) : Event :=
  let index := fields.getD 0 []
  match finField n index with
  | none => replyNo (txt "TB") [name, index] .field e
  | some i =>
    match judge i (fields.drop 1) e.toState with
    | .error r => replyNo (txt "TB") [name, index] r e
    | .ok write => (replyOk (txt "TB") [name, natKey index i.val] (write e)).woken.arbiterDue

/-- The judgement of fields that only R11 checks. -/
def judged {α : Type} (read : Option α) (write : α → Event → Event) : Judgement :=
  match read with
  | none => .error .field
  | some x => .ok (write x)

/-! ### STAND (R32, R124) -/

/-- The guard test of R32 and R61: the guard in milliseconds is at least the warm-up plus 1,000. -/
def guardTest (st : StandEntry) (m : MeterEntry) : Bool := decide (warmUpMs m + 1000 ≤ guardMs st)

/-- The STAND entry is written; a write of the guard limit or unit that brings the limit to or below the lit time
makes the guard expire in this event (R124). -/
def writeStand (x : StandEntry) (e : Event) : Event :=
  let changed := decide (x.guardLimit ≠ e.stand.guardLimit ∨ x.guardUnit ≠ e.stand.guardUnit)
  let lampOn := decide (e.lamp.state = .warming ∨ e.lamp.state = .lit)
  let e1 := e.setStand x
  if changed && lampOn && decide (guardMs x ≤ litMs e.lamp) then guardExpires e1 else e1

/-- A TB STAND write (R32). -/
def judgeStand (_ : Fin 1) (fields : List Text) (s : State) : Judgement :=
  match standFields s.stand fields with
  | none => .error .field
  | some x => if guardTest x s.meter.entry then .ok (writeStand x) else .error .field

/-! ### QUEUE (R41, R45) -/

/-- The completion entry of a flushed slip (R45). -/
def flushedEntry (c : Slip) : Completion := { slip := c.number, ending := .flushed, made := 0, incomplete := 0 }

/-- The slips of queue `k` and every higher queue, in the order they leave (R45). -/
def slipsFrom (k : Fin 8) (s : Store) : List Slip :=
  (queues.filter fun j => decide (k ≤ j)).flatMap fun j => (s.rings[j]).slips

/-- The store laid out anew from queue `k` under a new table: those queues are empty with their head slots at their
bases, the lower ones as they were (R45). -/
def relayout (k : Fin 8) (table : Vector QueueEntry 8) (s : Store) : Store :=
  { s with
    table
    rings := Vector.ofFn fun j : Fin 8 => if k ≤ j then { slips := [], head := queueBase table j.val } else s.rings[j] }

/-- A queue entry is written; a change of capacity flushes and lays out anew (R41, R45). -/
def writeQueue (k : Fin 8) (x : QueueEntry) (e : Event) : Event :=
  let table := e.store.table.set k x
  if x.capacity = (e.store.table[k]).capacity then e.setStore { e.store with table }
  else
    let flushed := slipsFrom k e.store
    let e1 := e.setStore (relayout k table e.store)
    flushed.foldl (fun e c => appendEnded (flushedEntry c) e) e1

/-- The sum of the eight capacities. -/
def capacitySum (t : Vector QueueEntry 8) : Nat := queueBase t 8

/-- A TB QUEUE write (R41). -/
def judgeQueue (k : Fin 8) (fields : List Text) (s : State) : Judgement :=
  match queueFields s.store.table[k] fields with
  | none => .error .field
  | some x =>
    if x.capacity ≠ (s.store.table[k]).capacity ∧ s.modes.current ≠ .setup then .error .mode
    else if Config.storeSlots < capacitySum (s.store.table.set k x) then .error .room
    else .ok (writeQueue k x)

/-! ### METER (R61) -/

/-- The METER entry is written. -/
def writeMeter (x : MeterEntry) (e : Event) : Event := e.setMeter { e.meter with entry := x }

/-- A TB METER write (R61). -/
def judgeMeter (_ : Fin 1) (fields : List Text) (s : State) : Judgement :=
  match meterFields s.meter.entry fields with
  | none => .error .field
  | some x =>
    if guardTest s.stand x = false then .error .field
    else if x ≠ s.meter.entry ∧ s.modes.current ≠ .setup then .error .mode
    else if x ≠ s.meter.entry ∧ s.meter.calibrating = true then .error .busy
    else .ok (writeMeter x)

/-! ### STOCK (R85), PATTERN (R82), FORMAT (R170) -/

/-- A stock entry is named by a slip in the store, the current slip or the CAMERA roll (R85). -/
def stockInUse (i : Fin 8) (s : State) : Bool :=
  (storeSlips s.store).any (fun c => decide (c.stock = i))
    || (match s.seq.slip with | some c => decide (c.slip.stock = i) | none => false)
    || decide (cameraStock s.film = some i)

/-- A stock entry is written. -/
def writeStock (i : Fin 8) (x : StockEntry) (e : Event) : Event :=
  e.setTables { e.tables with stock := e.tables.stock.set i x }

/-- A TB STOCK write (R85). -/
def judgeStock (i : Fin 8) (fields : List Text) (s : State) : Judgement :=
  match stockFields s.tables.stock[i] fields with
  | none => .error .field
  | some x =>
    if x.base = 0 ∧ stockInUse i s = true then .error .busy
    else if x.kind ≠ (s.tables.stock[i]).kind ∧ cameraStock s.film = some i then .error .busy
    else .ok (writeStock i x)

/-- A pattern entry is written. -/
def writePattern (i : Fin 16) (x : List Int) (e : Event) : Event :=
  e.setTables { e.tables with pattern := e.tables.pattern.set i x }

/-- A TB PATTERN write (R82). -/
def judgePattern (i : Fin 16) (fields : List Text) (s : State) : Judgement :=
  judged (patternFields s.tables.pattern[i] fields) (writePattern i)

/-- A format entry is written. -/
def writeFormat (i : Fin 8) (x : FormatEntry) (e : Event) : Event :=
  e.setLabels { e.labels with formats := e.labels.formats.set i x }

/-- A TB FORMAT write (R170). -/
def judgeFormat (i : Fin 8) (fields : List Text) (s : State) : Judgement :=
  judged (formatFields s.labels.formats[i] fields) (writeFormat i)

/-! ### ACCOUNT (R187) and RATE (R190) -/

/-- An account entry is held to its code: a slip in the store, the current slip or a frame record names it, or a
balance is not 0 (R187, step 2). -/
def accountInUse (i : Fin 64) (s : State) : Bool :=
  (storeSlips s.store).any (fun c => decide (c.account = i))
    || (match s.seq.slip with | some c => decide (c.slip.account = i) | none => false)
    || s.records.any (fun r => decide (r.account = i))
    || decide ((s.money.accounts[i]).provisional ≠ 0) || decide ((s.money.accounts[i]).final ≠ 0)

/-- Another entry that is OPEN or CLOSED holds the code (R187, step 3). -/
def codeTaken (i : Fin 64) (code : Option Text) (a : Accounts) : Bool :=
  accountIndices.any fun j => decide (j ≠ i ∧ (a[j]).state ≠ .free ∧ (a[j]).code = code)

/-- An account entry is written; its balances and mark are those it held (R187). -/
def writeAccount (i : Fin 64) (x : Account) (e : Event) : Event :=
  e.setMoney { e.money with accounts := e.money.accounts.set i x }

/-- A TB ACCOUNT write (R186, R187). -/
def judgeAccount (i : Fin 64) (fields : List Text) (s : State) : Judgement :=
  let old := s.money.accounts[i]
  match accountFields old fields with
  | none => .error .field
  | some x =>
    if x.state ≠ .free ∧ x.code = none then .error .field
    else if (x.code ≠ old.code ∨ (x.state = .free ∧ old.state ≠ .free)) ∧ accountInUse i s = true then .error .busy
    else if x.state ≠ .free ∧ codeTaken i x.code s.money.accounts = true then .error .duplicate
    else .ok (writeAccount i x)

/-- A rate entry is written. -/
def writeRate (i : Fin 4) (x : RateEntry) (e : Event) : Event :=
  e.setMoney { e.money with rates := e.money.rates.set i x }

/-- A TB RATE write (R190). -/
def judgeRate (i : Fin 4) (fields : List Text) (s : State) : Judgement :=
  judged (rateFields s.money.rates[i] fields) (writeRate i)

/-! ### The eight cards -/

/-- A TB STAND card. -/
def cardTbStand : List Text → Event → Event := tableWrite (txt "STAND") 1 judgeStand
/-- A TB QUEUE card. -/
def cardTbQueue : List Text → Event → Event := tableWrite (txt "QUEUE") 8 judgeQueue
/-- A TB METER card. -/
def cardTbMeter : List Text → Event → Event := tableWrite (txt "METER") 1 judgeMeter
/-- A TB STOCK card. -/
def cardTbStock : List Text → Event → Event := tableWrite (txt "STOCK") 8 judgeStock
/-- A TB PATTERN card. -/
def cardTbPattern : List Text → Event → Event := tableWrite (txt "PATTERN") 16 judgePattern
/-- A TB FORMAT card. -/
def cardTbFormat : List Text → Event → Event := tableWrite (txt "FORMAT") 8 judgeFormat
/-- A TB ACCOUNT card. -/
def cardTbAccount : List Text → Event → Event := tableWrite (txt "ACCOUNT") 64 judgeAccount
/-- A TB RATE card. -/
def cardTbRate : List Text → Event → Event := tableWrite (txt "RATE") 4 judgeRate

end Sys2Proof.Machine
end

