-- ==== Sys2Proof/Machine/Line.lean ====
section
/-! DEFINITION. The order line: the receive buffer, the card assembler, the judgement of a card and its handing to
its owner, the transmit queue and the line reset (R4 to R9, R19). -/

namespace Sys2Proof.Machine

/-! ### Receive buffer (R1, R6) -/

/-- A character is lost: the next to join the buffer carries the gap mark. -/
def loseChar (x : LineState) : LineState := { x with lost := true }

/-- A character joins the tail of the buffer, with the gap mark if one waits. -/
def joinChar (c : Char) (x : LineState) : LineState :=
  { x with rx := x.rx ++ [{ char := c, gap := x.lost }], lost := false }

/-- A character arrives from the line (R6). -/
def receiveChar (c : LineChar) (e : Event) : Event :=
  match c with
  | .framingError => e.setLine (loseChar e.line)
  | .code b =>
    if e.line.rx.length < Config.rxPlaces then e.setLine (joinChar (Char.ofNat b.toNat) e.line)
    else e.setLine (loseChar e.line)

/-! ### Keys and the judgement of a card (R7, R8) -/

/-- The arguments a query subject takes (R12). -/
def subjectArity (subject : Text) : Option Nat :=
  if subject = txt "MODE" ∨ subject = txt "CURRENT" ∨ subject = txt "COUNTERS" ∨ subject = txt "INPUTS"
      ∨ subject = txt "ENDED" ∨ subject = txt "EVENTS" then some 0
  else if subject = txt "QUEUE" ∨ subject = txt "SLIP" ∨ subject = txt "ROLL" ∨ subject = txt "ACCOUNT" then some 1
  else if subject = txt "TABLE" then some 2
  else if subject = txt "FRAMES" then some 3
  else none

/-- The key fields of a query as received: the subject and its arguments; of an unknown subject, every argument
received (log 17). -/
def queryKey (fields : List Text) : List Text :=
  match subjectArity (fields.getD 0 []) with
  | some n => keyTexts (n + 1) fields
  | none => if fields = [] then [[]] else fields

/-- The key fields a reply to a card of some kind carries, as received (R7, R8). A kind that is no console kind has
none (log 17). -/
def keyFields (kind : Text) (fields : List Text) : List Text :=
  if kind = txt "SL" ∨ kind = txt "CN" ∨ kind = txt "MD" ∨ kind = txt "RL" ∨ kind = txt "DR" ∨ kind = txt "RT"
      ∨ kind = txt "SE" then keyTexts 1 fields
  else if kind = txt "TB" ∨ kind = txt "KP" then keyTexts 2 fields
  else if kind = txt "QY" then queryKey fields
  else []

/-- The fourteen kinds from the console (R7). -/
def consoleKinds : List Text :=
  [txt "CB", txt "CL", txt "CN", txt "DR", txt "KP", txt "MD", txt "QY", txt "RL", txt "RS", txt "RT", txt "SE",
   txt "SL", txt "TB", txt "UL"]

/-- A card passes its check: two uppercase hexadecimal digits whose value is the computed sum (R2). -/
def checkPasses (kind : Text) (fields : List Text) (check : Text) : Bool := decide (check = checkText kind fields)

/-- A TB card goes to the owner of its table; a name that is no writable table is refused FIELD (R11). -/
def handTable (fields : List Text) : Event → Event :=
  let name := fields.getD 0 []
  let rest := fields.drop 1
  if name = txt "STAND" then cardTbStand rest
  else if name = txt "QUEUE" then cardTbQueue rest
  else if name = txt "METER" then cardTbMeter rest
  else if name = txt "STOCK" then cardTbStock rest
  else if name = txt "PATTERN" then cardTbPattern rest
  else if name = txt "FORMAT" then cardTbFormat rest
  else if name = txt "ACCOUNT" then cardTbAccount rest
  else if name = txt "RATE" then cardTbRate rest
  else replyNo (txt "TB") (keyTexts 2 fields) .field

/-- A QY card goes to the owner of its subject; an unknown subject is refused FIELD (R12). -/
def handQuery (fields : List Text) : Event → Event :=
  let subject := fields.getD 0 []
  let args := fields.drop 1
  if subject = txt "MODE" then cardQyMode args
  else if subject = txt "CURRENT" then cardQyCurrent args
  else if subject = txt "QUEUE" then cardQyQueue args
  else if subject = txt "SLIP" then cardQySlip args
  else if subject = txt "ROLL" then cardQyRoll args
  else if subject = txt "FRAMES" then cardQyFrames args
  else if subject = txt "ACCOUNT" then cardQyAccount args
  else if subject = txt "COUNTERS" then cardQyCounters args
  else if subject = txt "INPUTS" then cardQyInputs args
  else if subject = txt "ENDED" then cardQyEnded args
  else if subject = txt "EVENTS" then cardQyEvents args
  else if subject = txt "TABLE" then cardQyTable args
  else replyNo (txt "QY") (queryKey fields) .field

/-- A card of a console kind is handed to its owning block (R7). -/
def handToOwner (kind : Text) (fields : List Text) : Event → Event :=
  if kind = txt "SL" then cardSl fields
  else if kind = txt "CN" then cardCn fields
  else if kind = txt "TB" then handTable fields
  else if kind = txt "QY" then handQuery fields
  else if kind = txt "MD" then cardMd fields
  else if kind = txt "CB" then cardCb fields
  else if kind = txt "RL" then cardRl fields
  else if kind = txt "UL" then cardUl fields
  else if kind = txt "DR" then cardDr fields
  else if kind = txt "RT" then cardRt fields
  else if kind = txt "KP" then cardKp fields
  else if kind = txt "RS" then cardRs fields
  else if kind = txt "CL" then cardCl fields
  else cardSe fields

/-- A card that ends with `>` is judged: CHECK, then KIND, and otherwise what a good card does (R7). -/
def judgeCard (good : Event → Event) (failed : Bool) (kind : Text) (fields : List Text) (check : Text)
    (e : Event) : Event :=
  if failed || !checkPasses kind fields check then replyNo kind (keyFields kind fields) .check e
  else if consoleKinds.contains kind then good e
  else replyNo kind [] .kind e

/-! ### The card assembler (R4, R5, R6) -/

/-- The event with its assembler replaced. -/
def setAsm (a : Assembler) (e : Event) : Event := e.setLine { e.line with asm := a }

/-- A card starts: count 1, failed mark clear, KIND. -/
def Assembler.started : Assembler :=
  { state := .kind, kind := [], fields := [], check := [], count := 1, failed := false }

/-- The last field with one more character. -/
def appendToLast (c : Char) : List Text → List Text
  | [] => [[c]]
  | [f] => [f ++ [c]]
  | f :: g :: rest => f :: appendToLast c (g :: rest)

/-- A character other than `<` and `>` taken into the card under assembly (R4). -/
def Assembler.taking (c : Char) (a : Assembler) : Assembler :=
  match a.state with
  | .hunt => a
  | .kind =>
    if c = '*' then { a with state := .check, failed := a.failed || decide (a.kind.length < 2) }
    else if c = '|' then { a with state := .body, fields := [[]], failed := a.failed || decide (a.kind.length < 2) }
    else if isPrintable c then
      { a with kind := a.kind ++ [c], failed := a.failed || !isCapital c || decide (2 ≤ a.kind.length) }
    else { a with failed := true }
  | .body =>
    if c = '*' then { a with state := .check }
    else if c = '|' then { a with fields := a.fields ++ [[]] }
    else if isPrintable c then { a with fields := appendToLast c a.fields }
    else { a with failed := true }
  | .check =>
    if c = '*' ∨ c = '|' then { a with failed := true }
    else if isPrintable c then { a with check := a.check ++ [c], failed := a.failed || decide (2 ≤ a.check.length) }
    else { a with failed := true }

/-- The card that ends at its `>` is failed: by its mark, by ending outside CHECK, or by its number of check
characters (R4). -/
def Assembler.endsFailed (a : Assembler) : Bool :=
  a.failed || decide (a.state ≠ .check) || decide (a.check.length ≠ 2)

/-- A card discarded at its 161st character is answered NO LONG, with its kind and the key fields completed by a
following `|` (R5). The 161st character itself counts for neither: a `|` there completes no key field and a letter there
is no kind character. R5 leaves that open, and it is the model's choice (DESIGN CHOICE, log 25). -/
def refuseLong (a : Assembler) (e : Event) : Event :=
  let kind := if a.kind.length < 2 then [] else a.kind
  replyNo kind (keyFields kind a.fields.dropLast) .long e

/-- A character taken while a card is under assembly (R4, R5, R6). -/
def assemble (c : RxChar) (a : Assembler) (e : Event) : Event :=
  if Config.longCount ≤ a.count + 1 then refuseLong a (setAsm .hunting e)
  else if c.char = '<' then setAsm .started e
  else
    let a1 := { a with count := a.count + 1, failed := a.failed || c.gap }
    if c.char = '>' then
      judgeCard (handToOwner a1.kind a1.fields) a1.endsFailed a1.kind a1.fields a1.check (setAsm .hunting e)
    else setAsm (a1.taking c.char) e

/-- The assembler takes the head character of the receive buffer (R4). -/
def takeCharacter (e : Event) : Event :=
  match e.line.rx with
  | [] => e
  | c :: rest =>
    let e1 := e.setLine { e.line with rx := rest }
    if e1.line.asm.state = .hunt then
      if c.char = '<' then setAsm .started e1 else e1
    else assemble c e1.line.asm e1

/-! ### Transmit queue and line reset (R9, R15, R19) -/

/-- The head card's `>` has been sent: it leaves, and the place goes to a waiting PF card, then to a DUE report. -/
def cardSent (e : Event) : Event :=
  match e.line.tx with
  | [] => e
  | _ :: rest => buildReport (pfEnters (e.setLine { e.line with tx := rest }))

/-- The line interface at a line reset: the buffer and the assembler are cleared, the report is withdrawn, and only
the card being sent, the head, stays in the transmit queue (R19). Log 8. -/
def LineState.afterReset (x : LineState) : LineState :=
  { x with rx := [], lost := false, asm := .hunting, report := .none, reportTimer := none, tx := x.tx.take 1 }

/-- A line reset (R19): HOLD is requested (R28). A PF card that waits outside the queue stays waiting, though the queue
now has places (R19, R114), and enters it when the card being sent has left (R9). An EV card of the same event, and replies
made before that, take those places ahead of it: R9 orders only the place that a full queue frees. Log 9. -/
def lineResets (e : Event) : Event := requestMode .hold (e.setLine e.line.afterReset)

end Sys2Proof.Machine
end

