-- ==== Sys2Proof/Machine/LineCommands.lean ====
section
/-! DEFINITION. The meanings of the order line's own commands (R4 to R9, R15, R19). -/

namespace Sys2Proof.Machine

/-- ORDER_LINE_CHARACTER_RECEIVED (R6). -/
def execOrderLineCharacterReceived (c : LineChar) (s : State) : Host.Outcome State Fault Refusal :=
  runEvent (receiveChar c) s

/-- ASSEMBLER_TAKE_CHARACTER (R4): only while the transmit queue has a free place (R9). -/
def execAssemblerTakeCharacter (s : State) : Host.Outcome State Fault Refusal := takeCard takeCharacter s

/-- CARD_REFUSED_CHECK_OR_KIND (R7). A card that is neither failed nor of a strange kind is not this row's: it changes
nothing here (log 7). -/
def execCardRefusedCheckOrKind (failed : Bool) (kind : Text) (fields : List Text) (check : Text) (s : State) : Host.Outcome State Fault Refusal :=
  takeCard (judgeCard id failed kind fields check) s

/-- TRANSMIT_CARD_SENT (R9). -/
def execTransmitCardSent (s : State) : Host.Outcome State Fault Refusal := runEvent cardSent s

/-- LINE_RESET (R19). -/
def execLineReset (s : State) : Host.Outcome State Fault Refusal := runEvent lineResets s

end Sys2Proof.Machine
end

