-- ==== Sys2Proof/Machine/Power.lean ====
section
/-! DEFINITION. Stand power-up, cell start and the retention latch: the value of each piece of state after a
power-up, as each chapter gives it (R20, R21, R29, R30, R33, R41, R58, R62, R86, R116, R117, R125, R133, R137, R152,
R168, R169, R170, R183, R185, R190, R200). -/

namespace Sys2Proof.Machine

/-! ### Cell start (R30) -/

/-- Every cell-backed item at its cell-start value (R30). -/
def cellDefaults (s : State) : State :=
  { s with
    stand := .default
    store := { s.store with table := queueTableDefault }
    meter := { s.meter with entry := .default }
    tables := { stock := stockDefault, pattern := patternDefault }
    film := { s.film with rolls := Vector.replicate 4 none, order := [] }
    records := []
    labels := { s.labels with formats := Vector.replicate 8 .default }
    money := .default }

/-! ### Agreement with the loss of work in flight -/

/-- A record at power-up: EXPOSING becomes SPOILED with no charge, an OPEN set INCOMPLETE, SPOOLED NONE (R169). -/
def Record.afterPower (r : Record) : Record :=
  { r with
    kind := if r.kind = .exposing then .spoiled else r.kind
    charge := if r.kind = .exposing then .none else r.charge
    label := if r.label = .spooled then .none else r.label
    data := r.data.map fun d => { d with status := if d.status = .opened then .incomplete else d.status } }

/-- A set still to be labelled: undecided, or with a KEEP frame not PRINTED (R183). -/
def setUnlabelled (set : List Record) : Bool :=
  !setDecided set || set.any fun r => decide (r.decision = .keep ∧ r.label ≠ .printed)

/-- The label cursor after power-up: the head of the first set still to be labelled, or one above the highest
record (R183). -/
def powerCursor (i : Fin 4) (rs : List Record) : Nat :=
  match (setHeads i rs).find? fun h => setUnlabelled (setRecords i h rs) with
  | some h => h
  | none => highestFrame (rs.filter fun r => decide (r.slot = i)) + 1

/-- A roll after power-up: retained, but for the MOUNTING slot's label cursor (R137). -/
def Roll.afterPower (i : Fin 4) (rs : List Record) (r : Roll) : Roll :=
  match r.state with
  | .mounting _ => { r with state := .mounting (powerCursor i rs) }
  | .camera => r
  | .away => r
  | .returned => r

/-- The transport state after power-up, from the retained roll table (R152). -/
def filmAfterPower (f : Film) : FilmState :=
  match cameraFrame f with
  | some (_, r) => if r.fogged then .faultDoor else .suspLost
  | none => .noRoll

/-- The transport and the roll table after power-up (R137, R152). -/
def Film.afterPower (rs : List Record) (f : Film) : Film :=
  { state := filmAfterPower f, flight := none, order := f.order, told := false
    rolls := Vector.ofFn fun i : Fin 4 => (f.rolls[i]).map (Roll.afterPower i rs) }

/-- The queue manager after power-up (R58). -/
def Store.afterPower (t : Vector QueueEntry 8) : Store :=
  { table := t, rings := Vector.ofFn fun k : Fin 8 => { slips := [], head := queueBase t k.val },
    overflowed := Vector.replicate 8 false, ended := [], unknownAccount := 0, queueFull := 0 }

/-- The meter after power-up (R62). -/
def Meter.afterPower (m : MeterEntry) : Meter :=
  { entry := m, count := 0, timeBase := 0, phase := .idle, job := none, lastRef := 0, calibrating := false }

/-- The lamp after power-up: it cools for the full cool-down; a cool-down of 0 leaves it OFF (R117). -/
def Lamp.afterPower (st : StandEntry) : Lamp :=
  { state := if fullCoolDown st = 0 then .off else .cooling, user := none, waiting := none, lit := 0, warmUp := none,
    coolDown := if fullCoolDown st = 0 then none else some (fullCoolDown st * Config.ms) }

/-- An input after power-up: its debounced level is its raw level (R133). -/
def InputLine.afterPower (l : InputLine) : InputLine :=
  { raw := l.raw, debounced := l.raw, timer := none, edgeSeen := false }

/-- The inputs after power-up. -/
def Inputs.afterPower (x : Inputs) : Inputs :=
  { door := x.door.afterPower, gate := x.gate.afterPower, rollEnd := x.rollEnd.afterPower, mark := x.mark.afterPower,
    pause := x.pause.afterPower }

/-- The line interface after power-up (R20), its speed sampled from the strap (R1). -/
def LineState.afterPower (strap : LineSpeed) : LineState :=
  { speed := strap, rx := [], lost := false, asm := .hunting, tx := [], pfWaiting := none, report := .none,
    reportTimer := none, flags := [] }

/-- The labels after power-up (R183). -/
def Labels.afterPower (f : Vector FormatEntry 8) : Labels :=
  { formats := f, spool := [], printer := .ready, sending := [], timeout := none, retry := none, feedHold := true }

/-- Each block in its stand power-up state (steps 2, 3 and 5 of R29). The clock's place and the waiting commands
are no block's: they stay (log 2, log 23). -/
def blocksAfterPower (strap : LineSpeed) (s : State) : State :=
  let records := s.records.map Record.afterPower
  { line := .afterPower strap
    modes := { requested := .setup, current := .setup, change := .none }
    stand := s.stand
    latch := true
    store := .afterPower s.store.table
    meter := .afterPower s.meter.entry
    tables := s.tables
    seq := .fresh
    lamp := .afterPower s.stand
    shutter := { opened := false, timer := none }
    inputs := s.inputs.afterPower
    film := s.film.afterPower records
    records
    labels := .afterPower s.labels.formats
    money := s.money
    clock := s.clock
    pending := s.pending }

/-- A stand power-up, a cell start when the latch is found clear (R29, R30): START is set, and CELL with it. -/
def powerUp (strap : LineSpeed) (e : Event) : Event :=
  let cellStart := !e.latch
  let kept := if cellStart then cellDefaults e.toState else e.toState
  setFlagIf cellStart .cell (setFlag .start (blocksAfterPower strap kept).begin)

/-- The retention latch is cleared: the cell's voltage has fallen too low (R29). -/
def latchClears (e : Event) : Event := { e with latch := false }

end Sys2Proof.Machine
end

