-- ==== Sys2Proof/Machine/Time.lean ====
section
/-! DEFINITION. The passing of time: what runs down or counts in every block, the expiries, the probe pulses and the
ends of the meter's phases, and what the part does when no command waits (R60, R63 to R66, R119 to R123, R127, R129,
R143, R179, R180). Log 2, log 3, log 15. -/

namespace Sys2Proof.Machine

/-! ### The time base (R60) -/

/-- The units of time from one tick of the time base to the next: 32,768 SLOW or 1,048,576 FAST ticks make a second. -/
def tickPeriod : TimeBase → Nat
  | .slow => 20000
  | .fast => 625

/-- The ticks of the free-running time base in the time `n` after a place `c` in its second. -/
def ticksIn (b : TimeBase) (c n : Nat) : Nat := (c + n) / tickPeriod b - c / tickPeriod b

/-- The least time after a place `c` in which `k` ticks arrive. -/
def timeOfTicks (b : TimeBase) (c k : Nat) : Nat := (c / tickPeriod b + k) * tickPeriod b - c

/-- The ticks a metering in flight counts in the time `n`. -/
def jobTicks (s : State) (n : Nat) : Nat :=
  match s.meter.job with
  | some j => ticksIn j.base s.clock n
  | none => 0

/-! ### Everything that runs (00_scope.md, Events and their order) -/

/-- A timer after the time `n`; one that has run out stays at 0 until its expiry is taken. -/
def timerAfter (n : Nat) (t : Timer) : Timer := t.map fun k => k - n

/-- The lit time counts in WARMING and LIT, up to the guard limit (spec/07, The lamp controller; R122). -/
def litAfter (n : Nat) (s : State) : Nat :=
  if (s.lamp.state = .warming ∨ s.lamp.state = .lit) ∧ s.lamp.lit < guardMs s.stand * Config.ms then
    min (s.lamp.lit + n) (guardMs s.stand * Config.ms)
  else s.lamp.lit

/-- The time base counter after `k` ticks; it stops one tick short of the end of its phase, which is an event of its
own (R63 to R65). -/
def timeBaseAfter (k : Nat) (m : Meter) : Int :=
  match m.phase with
  | .idle => m.timeBase
  | .reference => max (m.timeBase - k) (1 - (Config.overrunTick : Int))
  | .gate => min (m.timeBase + k) (-1)

/-- An input after the time `n`. -/
def InputLine.after (n : Nat) (l : InputLine) : InputLine := { l with timer := timerAfter n l.timer }

/-- The inputs after the time `n`. -/
def Inputs.after (n : Nat) (x : Inputs) : Inputs :=
  { door := x.door.after n, gate := x.gate.after n, rollEnd := x.rollEnd.after n, mark := x.mark.after n,
    pause := x.pause.after n }

/-- The time `n`, in units of time, passes with nothing else. -/
def elapse (n : Nat) (s : State) : State :=
  if n = 0 then s
  else
    { s with
      line := { s.line with reportTimer := timerAfter n s.line.reportTimer }
      meter := { s.meter with timeBase := timeBaseAfter (jobTicks s n) s.meter }
      lamp := { s.lamp with
        lit := litAfter n s, warmUp := timerAfter n s.lamp.warmUp, coolDown := timerAfter n s.lamp.coolDown }
      shutter := { s.shutter with timer := timerAfter n s.shutter.timer }
      inputs := s.inputs.after n
      film := { s.film with flight := s.film.flight.map fun a => { a with left := a.left - n } }
      labels := { s.labels with timeout := timerAfter n s.labels.timeout, retry := timerAfter n s.labels.retry }
      clock := (s.clock + n) % Config.second }

/-- An expiry: the time its timer has left passes, and the event is taken. With the timer stopped there is none, and
nothing changes (log 3). -/
def expires (t : Timer) (f : Event → Event) (s : State) : Host.Outcome State Fault Refusal :=
  match t with
  | some n => runEvent f (elapse n s)
  | none => .next s

/-! ### What falls due when no command waits (log 2) -/

/-- A timer has run out. -/
def timedOut (t : Timer) : Bool := decide (t = some 0)

/-- The assembler may take a character (R9). -/
def characterReady (s : State) : Bool := txFree s && !s.line.rx.isEmpty

/-- The lit time has reached the guard limit in LIT (R122). -/
def guardReached (s : State) : Bool := decide (s.lamp.state = .lit ∧ guardMs s.stand ≤ litMs s.lamp)

/-- The reference phase's last tick arrives within the time `n` (R64). -/
def overrunReached (n : Nat) (s : State) : Bool :=
  decide (s.meter.phase = .reference ∧ Config.overrunTick ≤ s.meter.timeBase.natAbs + jobTicks s n)

/-- The gate phase's last tick arrives within the time `n` (R65). -/
def gateReached (n : Nat) (s : State) : Bool := decide (s.meter.phase = .gate ∧ 0 ≤ s.meter.timeBase + jobTicks s n)

/-- The command, if it is due. -/
def dueIf (b : Bool) (i : Instr) : List Instr := if b then [i] else []

/-- What is due in `s'`, the time `n` after `s`, in the order it is taken. -/
def dueCommands (n : Nat) (s s' : State) : List Instr :=
  dueIf (timedOut s'.line.reportTimer) .reportDelayExpiry
    ++ dueIf (characterReady s') .assemblerTakeCharacter
    ++ dueIf (timedOut s'.lamp.warmUp) .warmUpExpiry
    ++ dueIf (timedOut s'.lamp.coolDown) .coolDownExpiry
    ++ dueIf (timedOut s'.shutter.timer) .exposureTimerExpiry
    ++ dueIf (guardReached s') .guardExpiry
    ++ dueIf (overrunReached n s) .referenceOverrun
    ++ dueIf (gateReached n s) .gatePhaseEnd
    ++ dueIf (timedOut s'.inputs.door.timer) (.debounceExpiry .door)
    ++ dueIf (timedOut s'.inputs.gate.timer) (.debounceExpiry .gate)
    ++ dueIf (timedOut s'.inputs.rollEnd.timer) (.debounceExpiry .rollEnd)
    ++ dueIf (timedOut s'.inputs.mark.timer) (.debounceExpiry .mark)
    ++ dueIf (timedOut s'.inputs.pause.timer) (.debounceExpiry .pause)
    ++ dueIf (decide (s'.film.flight.map Advance.left = some 0)) .advanceTimerExpiry
    ++ dueIf (timedOut s'.labels.retry) .retryTimerExpiry
    ++ dueIf (timedOut s'.labels.timeout) .printerTimeoutExpiry

/-- The time to each thing that can happen next with no command waiting: the next tenth of a millisecond, the next tick a
metering counts, the guard limit, the end of each running timer. -/
def nextInstants (s : State) : List Nat :=
  (Config.tenth - s.clock % Config.tenth)
    :: ((match s.meter.job with | some j => [tickPeriod j.base - s.clock % tickPeriod j.base] | none => [])
      ++ (if s.lamp.state = .lit then [guardMs s.stand * Config.ms - s.lamp.lit] else [])
      ++ s.line.reportTimer.toList ++ s.lamp.warmUp.toList ++ s.lamp.coolDown.toList ++ s.shutter.timer.toList
      ++ s.inputs.door.timer.toList ++ s.inputs.gate.timer.toList ++ s.inputs.rollEnd.timer.toList
      ++ s.inputs.mark.timer.toList ++ s.inputs.pause.timer.toList ++ (s.film.flight.map Advance.left).toList
      ++ s.labels.retry.toList ++ s.labels.timeout.toList)

/-- The time to the next instant: the least of those still to come (log 2). -/
def untilInstant (s : State) : Nat :=
  ((nextInstants s).filter (0 < ·)).foldl min Config.tenth

/-- The part with no command waiting: the time to the next instant passes, and what is due waits to be taken (log 2). -/
def idles (s : State) : State :=
  let n := untilInstant s
  let s' := elapse n s
  { s' with pending := dueCommands n s s' }

/-! ### The meter's counters and the ends of its phases (R63 to R66) -/

/-- A pulse of a probe (R59): it counts in its own phase alone. The R-th lamp pulse ends the reference phase (R63); a
gate pulse that finds the counter at its top is a gate overrun (R66). -/
def countPulse (p : Probe) (e : Event) : Event :=
  match e.meter.phase, p with
  | .reference, .lamp =>
    if e.meter.count + 1 < Config.countSpan then e.setMeter { e.meter with count := e.meter.count + 1 }
    else referenceEnds e
  | .gate, .gate =>
    if e.meter.count + 1 < Config.countSpan then e.setMeter { e.meter with count := e.meter.count + 1 }
    else gateOverruns e
  | _, _ => e

/-- The event in a phase of the meter; in another phase nothing changes. -/
def inPhase (ph : MeterPhase) (f : Event → Event) (e : Event) : Event := if e.meter.phase = ph then f e else e

/-- The time to the tick before the reference phase's last (R64). -/
def untilOverrun (s : State) : Nat :=
  match s.meter.phase, s.meter.job with
  | .reference, some j => timeOfTicks j.base s.clock (Config.overrunTick - 1 - s.meter.timeBase.natAbs)
  | _, _ => 0

/-- The time to the tick before the gate phase's last (R65). -/
def untilGateEnd (s : State) : Nat :=
  match s.meter.phase, s.meter.job with
  | .gate, some j => timeOfTicks j.base s.clock (s.meter.timeBase.natAbs - 1)
  | _, _ => 0

/-- The measurement counter at its top, as a gate overrun finds it (R66). -/
def counterAtTop (e : Event) : Event := e.setMeter { e.meter with count := Config.countSpan - 1 }

/-- The time the lit time has to the guard limit, in LIT (R122). -/
def untilGuard (s : State) : Timer :=
  if s.lamp.state = .lit then some (guardMs s.stand * Config.ms - s.lamp.lit) else none

/-- The time the advance in flight has left (R143). -/
def untilJam (s : State) : Timer := s.film.flight.map Advance.left

/-! ### The exposure timer (R127) -/

/-- The exposure timer expires: the shutter closes, and the sequencer is told of the exposure end (R127, R103). -/
def exposureTimerEnds (e : Event) : Event :=
  let e1 := closeShutter e
  if e1.seq.state = .exposing then exposureEnds e1 else e1

end Sys2Proof.Machine
end

