-- ==== Sys2Proof/Machine/Printer.lean ====
section
/-! DEFINITION. The label line: a label sent, the printer's answers, the retry and the timeout (R176 to R184). -/

namespace Sys2Proof.Machine

/-- The printer timeout, of which the STAND field counts 100 ms (R31, R177). -/
def printerTimeoutTime (st : StandEntry) : Nat := st.printerTimeout * 100 * Config.ms

/-- The retry time: 1 s (R179). -/
def retryTime : Nat := 1000 * Config.ms

/-- The label's last CR has gone out: the printer timeout timer starts (R177). -/
def labelGoes (e : Event) : Event :=
  if e.labels.printer = .sending then
    e.setLabels { e.labels with printer := .sent, sending := [], timeout := some (printerTimeoutTime e.stand) }
  else e

/-- The printer awaits the answer to a label that has been sent: SENT and sent, or STOPPED(SILENT). -/
def answerAwaited (p : PrinterState) : Bool := decide (p = .sent ∨ p = .stopped .silent)

/-- The printer in a state with its timeout timer stopped. -/
def printerTo (p : PrinterState) (e : Event) : Event := e.setLabels { e.labels with printer := p, timeout := none }

/-- The set head record of a label's frame: the record of the set that carries set head data. -/
def copyFeeOf (slot : Fin 4) (frame : Nat) (rs : List Record) : Nat :=
  match recordAt slot frame rs with
  | some r =>
    match headData (setRecords slot r.head rs) with
    | some d => d.copyFee
    | none => 0
  | none => 0

/-- The kept frame becomes PRINTED, from SPOOLED alone, and the set head's copy fee is posted final (R164, R196). -/
def framePrinted (slot : Fin 4) (frame : Nat) (e : Event) : Event :=
  match recordAt slot frame e.records with
  | some r =>
    if r.label = .spooled then
      posted (postCopyFee r.account (copyFeeOf slot frame e.records))
        (e.setRecords (changeRecords (isAt slot frame) (fun x => { x with label := .printed }) e.records))
    else e
  | none => e

/-- The acceptance of the head entry's label, steps 1 to 5 (R178). -/
def acceptLabel (e : Event) : Event :=
  match e.labels.spool with
  | [] => e
  | l :: rest =>
    let e1 := e.setLabels { e.labels with spool := rest }
    let e2 := checkCloseOut (framePrinted l.slot l.frame e1)
    sendIfReady (feed (printerTo .ready e2))

/-- The answer A (R178, R179, R180). -/
def answerA (e : Event) : Event := if answerAwaited e.labels.printer then acceptLabel e else e

/-- The answer B (R179). -/
def answerB (e : Event) : Event :=
  if e.labels.printer = .sent then
    e.setLabels { e.labels with printer := .retry, timeout := none, retry := some retryTime }
  else e

/-- The answer S (R180). -/
def answerS (e : Event) : Event :=
  if answerAwaited e.labels.printer then setFlag .stockOut (printerTo (.stopped .stock) e) else e

/-- The answer J (R180). -/
def answerJ (e : Event) : Event :=
  if answerAwaited e.labels.printer then setFlag .printer (printerTo (.stopped .jam) e) else e

/-- The answer R (R181, R184): it declares a RETRY or STOPPED printer ready and sends the head again; in READY it
releases the feed hold; in SENT it is ignored. -/
def answerR (e : Event) : Event :=
  match e.labels.printer with
  | .ready => releaseHold e
  | .sending => e
  | .sent => e
  | .retry => releaseHold (sendHead e)
  | .stopped _ => releaseHold (sendHead e)

/-- The retry timer expires (R179): the head is sent, or the printer is READY with an empty spool. -/
def retryEnds (e : Event) : Event := if e.labels.printer = .retry then sendHead e else e

/-- The printer timeout timer expires (R180). -/
def timeoutEnds (e : Event) : Event :=
  if e.labels.printer = .sent then setFlag .printer (printerTo (.stopped .silent) e) else e

end Sys2Proof.Machine
end

