-- ==== Sys2Proof/Machine/PrinterCommands.lean ====
section
/-! DEFINITION. The meanings of the label line's commands (R177 to R181). -/

namespace Sys2Proof.Machine

/-- LABEL_SENT (R177). -/
def execLabelSent (s : State) : Host.Outcome State Fault Refusal := runEvent labelGoes s

/-- PRINTER_ANSWER_A (R178). -/
def execPrinterAnswerA (s : State) : Host.Outcome State Fault Refusal := runEvent answerA s

/-- PRINTER_ANSWER_B (R179). -/
def execPrinterAnswerB (s : State) : Host.Outcome State Fault Refusal := runEvent answerB s

/-- PRINTER_ANSWER_S (R180). -/
def execPrinterAnswerS (s : State) : Host.Outcome State Fault Refusal := runEvent answerS s

/-- PRINTER_ANSWER_J (R180). -/
def execPrinterAnswerJ (s : State) : Host.Outcome State Fault Refusal := runEvent answerJ s

/-- PRINTER_ANSWER_R (R181). -/
def execPrinterAnswerR (s : State) : Host.Outcome State Fault Refusal := runEvent answerR s

/-- RETRY_TIMER_EXPIRY (R179). -/
def execRetryTimerExpiry (s : State) : Host.Outcome State Fault Refusal := expires s.labels.retry retryEnds s

/-- PRINTER_TIMEOUT_EXPIRY (R180). -/
def execPrinterTimeoutExpiry (s : State) : Host.Outcome State Fault Refusal := expires s.labels.timeout timeoutEnds s

end Sys2Proof.Machine
end

