-- ==== Sys2Proof/Machine/QueryCommands.lean ====
section
/-! DEFINITION. The meanings of the queries (R12). The arguments are those after the subject word, and after the table
name for DENSITY and BRACKET. -/

namespace Sys2Proof.Machine

/-- QY_MODE (R21). -/
def execQyMode (args : List Text) (s : State) : Host.Outcome State Fault Refusal := takeCard (cardQyMode args) s

/-- QY_CURRENT (R115). -/
def execQyCurrent (args : List Text) (s : State) : Host.Outcome State Fault Refusal := takeCard (cardQyCurrent args) s

/-- QY_QUEUE (R43). -/
def execQyQueue (args : List Text) (s : State) : Host.Outcome State Fault Refusal := takeCard (cardQyQueue args) s

/-- QY_SLIP (R46). -/
def execQySlip (args : List Text) (s : State) : Host.Outcome State Fault Refusal := takeCard (cardQySlip args) s

/-- QY_ROLL (R136). -/
def execQyRoll (args : List Text) (s : State) : Host.Outcome State Fault Refusal := takeCard (cardQyRoll args) s

/-- QY_FRAMES (R167). -/
def execQyFrames (args : List Text) (s : State) : Host.Outcome State Fault Refusal := takeCard (cardQyFrames args) s

/-- QY_ACCOUNT (R199). -/
def execQyAccount (args : List Text) (s : State) : Host.Outcome State Fault Refusal := takeCard (cardQyAccount args) s

/-- QY_COUNTERS (R57). -/
def execQyCounters (args : List Text) (s : State) : Host.Outcome State Fault Refusal :=
  takeCard (cardQyCounters args) s

/-- QY_INPUTS (R132). -/
def execQyInputs (args : List Text) (s : State) : Host.Outcome State Fault Refusal := takeCard (cardQyInputs args) s

/-- QY_ENDED (R56). -/
def execQyEnded (args : List Text) (s : State) : Host.Outcome State Fault Refusal := takeCard (cardQyEnded args) s

/-- QY_EVENTS (R18). -/
def execQyEvents (args : List Text) (s : State) : Host.Outcome State Fault Refusal := takeCard (cardQyEvents args) s

/-- QY_TABLE (R12). -/
def execQyTable (args : List Text) (s : State) : Host.Outcome State Fault Refusal := takeCard (cardQyTable args) s

/-- QY_TABLE_DENSITY (R78). -/
def execQyTableDensity (args : List Text) (s : State) : Host.Outcome State Fault Refusal :=
  takeCard (cardQyTableDensity args) s

/-- QY_TABLE_BRACKET (R81). -/
def execQyTableBracket (args : List Text) (s : State) : Host.Outcome State Fault Refusal :=
  takeCard (cardQyTableBracket args) s

end Sys2Proof.Machine
end

