-- ==== Sys2Proof/Machine/StandCommands.lean ====
section
/-! DEFINITION. The meanings of the stand's commands: power, time, the meter, the lamp, the shutter, the inputs and the
transport. An expiry lets the time its timer has left pass first (log 3). -/

namespace Sys2Proof.Machine

/-- REPORT_DELAY_EXPIRY (R15). -/
def execReportDelayExpiry (s : State) : Host.Outcome State Fault Refusal :=
  expires s.line.reportTimer reportDelayEnds s

/-- STAND_POWER_UP (R29), with the strap as sampled. -/
def execStandPowerUp (strap : LineSpeed) (s : State) : Host.Outcome State Fault Refusal := runEvent (powerUp strap) s

/-- RETENTION_LATCH_CLEARED (R29). -/
def execRetentionLatchCleared (s : State) : Host.Outcome State Fault Refusal := runEvent latchClears s

/-- PROBE_PULSE (R59). -/
def execProbePulse (p : Probe) (s : State) : Host.Outcome State Fault Refusal := runEvent (countPulse p) s

/-- REFERENCE_PHASE_END (R63): the R-th pulse, whatever the counter holds (log 15). -/
def execReferencePhaseEnd (s : State) : Host.Outcome State Fault Refusal :=
  runEvent (inPhase .reference referenceEnds) s

/-- REFERENCE_OVERRUN (R64): the ticks still missing pass first. -/
def execReferenceOverrun (s : State) : Host.Outcome State Fault Refusal :=
  runEvent (inPhase .reference referenceOverruns) (elapse (untilOverrun s) s)

/-- GATE_PHASE_END (R65): the ticks still missing pass first. -/
def execGatePhaseEnd (s : State) : Host.Outcome State Fault Refusal :=
  runEvent (inPhase .gate meteringEnds) (elapse (untilGateEnd s) s)

/-- GATE_OVERRUN (R66): a pulse that finds the counter at its top (log 15). -/
def execGateOverrun (s : State) : Host.Outcome State Fault Refusal :=
  runEvent (inPhase .gate fun e => gateOverruns (counterAtTop e)) s

/-- WARM_UP_EXPIRY (R119). -/
def execWarmUpExpiry (s : State) : Host.Outcome State Fault Refusal := expires s.lamp.warmUp lampLit s

/-- GUARD_EXPIRY (R122). -/
def execGuardExpiry (s : State) : Host.Outcome State Fault Refusal := expires (untilGuard s) guardExpires s

/-- COOL_DOWN_EXPIRY (R123). -/
def execCoolDownExpiry (s : State) : Host.Outcome State Fault Refusal := expires s.lamp.coolDown coolDownEnds s

/-- EXPOSURE_TIMER_EXPIRY (R127). -/
def execExposureTimerExpiry (s : State) : Host.Outcome State Fault Refusal :=
  expires s.shutter.timer exposureTimerEnds s

/-- RAW_LEVEL_CHANGE (R129). -/
def execRawLevelChange (i : Input) (active : Bool) (s : State) : Host.Outcome State Fault Refusal :=
  runEvent (rawChanges i active) s

/-- DEBOUNCE_EXPIRY (R129). -/
def execDebounceExpiry (i : Input) (s : State) : Host.Outcome State Fault Refusal :=
  expires (s.inputs.line i).timer (debounceEnds i) s

/-- ADVANCE_END (R142): the transport's share of the counted MARK edge (log 16). -/
def execAdvanceEnd (s : State) : Host.Outcome State Fault Refusal := runEvent advanceEnds s

/-- ADVANCE_TIMER_EXPIRY (R143). -/
def execAdvanceTimerExpiry (s : State) : Host.Outcome State Fault Refusal := expires (untilJam s) advanceJams s

end Sys2Proof.Machine
end

