-- ==== Sys2Proof/Machine/TableCommands.lean ====
section
/-! DEFINITION. The meanings of the table writes (R11). The fields are the index and then the entry fields. -/

namespace Sys2Proof.Machine

/-- TB_STAND (R32). -/
def execTbStand (fields : List Text) (s : State) : Host.Outcome State Fault Refusal := takeCard (cardTbStand fields) s

/-- TB_QUEUE (R41). -/
def execTbQueue (fields : List Text) (s : State) : Host.Outcome State Fault Refusal := takeCard (cardTbQueue fields) s

/-- TB_METER (R61). -/
def execTbMeter (fields : List Text) (s : State) : Host.Outcome State Fault Refusal := takeCard (cardTbMeter fields) s

/-- TB_STOCK (R85). -/
def execTbStock (fields : List Text) (s : State) : Host.Outcome State Fault Refusal := takeCard (cardTbStock fields) s

/-- TB_PATTERN (R82). -/
def execTbPattern (fields : List Text) (s : State) : Host.Outcome State Fault Refusal :=
  takeCard (cardTbPattern fields) s

/-- TB_FORMAT (R170). -/
def execTbFormat (fields : List Text) (s : State) : Host.Outcome State Fault Refusal :=
  takeCard (cardTbFormat fields) s

/-- TB_ACCOUNT (R187). -/
def execTbAccount (fields : List Text) (s : State) : Host.Outcome State Fault Refusal :=
  takeCard (cardTbAccount fields) s

/-- TB_RATE (R190). -/
def execTbRate (fields : List Text) (s : State) : Host.Outcome State Fault Refusal := takeCard (cardTbRate fields) s

end Sys2Proof.Machine
end

