-- ==== Sys2Proof/Machine/Dispatch.lean ====
section
/-! DEFINITION. The meaning of every command: one arm per row of spec/opcode_table.json. -/

namespace Sys2Proof.Machine

def exec (i : Instr) (s : State) : Host.Outcome State Fault Refusal :=
  match i with
  | .orderLineCharacterReceived c => Sys2Proof.Machine.execOrderLineCharacterReceived c s
  | .assemblerTakeCharacter => Sys2Proof.Machine.execAssemblerTakeCharacter s
  | .cardRefusedCheckOrKind failed kind fields check => Sys2Proof.Machine.execCardRefusedCheckOrKind failed kind fields check s
  | .sl fields => Sys2Proof.Machine.execSl fields s
  | .cn fields => Sys2Proof.Machine.execCn fields s
  | .tbStand fields => Sys2Proof.Machine.execTbStand fields s
  | .tbQueue fields => Sys2Proof.Machine.execTbQueue fields s
  | .tbMeter fields => Sys2Proof.Machine.execTbMeter fields s
  | .tbStock fields => Sys2Proof.Machine.execTbStock fields s
  | .tbPattern fields => Sys2Proof.Machine.execTbPattern fields s
  | .tbFormat fields => Sys2Proof.Machine.execTbFormat fields s
  | .tbAccount fields => Sys2Proof.Machine.execTbAccount fields s
  | .tbRate fields => Sys2Proof.Machine.execTbRate fields s
  | .md fields => Sys2Proof.Machine.execMd fields s
  | .cb fields => Sys2Proof.Machine.execCb fields s
  | .rl fields => Sys2Proof.Machine.execRl fields s
  | .ul fields => Sys2Proof.Machine.execUl fields s
  | .rt fields => Sys2Proof.Machine.execRt fields s
  | .dr fields => Sys2Proof.Machine.execDr fields s
  | .kp fields => Sys2Proof.Machine.execKp fields s
  | .rs fields => Sys2Proof.Machine.execRs fields s
  | .cl fields => Sys2Proof.Machine.execCl fields s
  | .se fields => Sys2Proof.Machine.execSe fields s
  | .qyMode args => Sys2Proof.Machine.execQyMode args s
  | .qyCurrent args => Sys2Proof.Machine.execQyCurrent args s
  | .qyQueue args => Sys2Proof.Machine.execQyQueue args s
  | .qySlip args => Sys2Proof.Machine.execQySlip args s
  | .qyRoll args => Sys2Proof.Machine.execQyRoll args s
  | .qyFrames args => Sys2Proof.Machine.execQyFrames args s
  | .qyAccount args => Sys2Proof.Machine.execQyAccount args s
  | .qyCounters args => Sys2Proof.Machine.execQyCounters args s
  | .qyInputs args => Sys2Proof.Machine.execQyInputs args s
  | .qyEnded args => Sys2Proof.Machine.execQyEnded args s
  | .qyEvents args => Sys2Proof.Machine.execQyEvents args s
  | .qyTable args => Sys2Proof.Machine.execQyTable args s
  | .qyTableDensity args => Sys2Proof.Machine.execQyTableDensity args s
  | .qyTableBracket args => Sys2Proof.Machine.execQyTableBracket args s
  | .transmitCardSent => Sys2Proof.Machine.execTransmitCardSent s
  | .reportDelayExpiry => Sys2Proof.Machine.execReportDelayExpiry s
  | .lineReset => Sys2Proof.Machine.execLineReset s
  | .standPowerUp strap => Sys2Proof.Machine.execStandPowerUp strap s
  | .retentionLatchCleared => Sys2Proof.Machine.execRetentionLatchCleared s
  | .probePulse p => Sys2Proof.Machine.execProbePulse p s
  | .referencePhaseEnd => Sys2Proof.Machine.execReferencePhaseEnd s
  | .referenceOverrun => Sys2Proof.Machine.execReferenceOverrun s
  | .gatePhaseEnd => Sys2Proof.Machine.execGatePhaseEnd s
  | .gateOverrun => Sys2Proof.Machine.execGateOverrun s
  | .warmUpExpiry => Sys2Proof.Machine.execWarmUpExpiry s
  | .guardExpiry => Sys2Proof.Machine.execGuardExpiry s
  | .coolDownExpiry => Sys2Proof.Machine.execCoolDownExpiry s
  | .exposureTimerExpiry => Sys2Proof.Machine.execExposureTimerExpiry s
  | .rawLevelChange input active => Sys2Proof.Machine.execRawLevelChange input active s
  | .debounceExpiry input => Sys2Proof.Machine.execDebounceExpiry input s
  | .advanceEnd => Sys2Proof.Machine.execAdvanceEnd s
  | .advanceTimerExpiry => Sys2Proof.Machine.execAdvanceTimerExpiry s
  | .labelSent => Sys2Proof.Machine.execLabelSent s
  | .printerAnswerA => Sys2Proof.Machine.execPrinterAnswerA s
  | .printerAnswerB => Sys2Proof.Machine.execPrinterAnswerB s
  | .printerAnswerS => Sys2Proof.Machine.execPrinterAnswerS s
  | .printerAnswerJ => Sys2Proof.Machine.execPrinterAnswerJ s
  | .printerAnswerR => Sys2Proof.Machine.execPrinterAnswerR s
  | .retryTimerExpiry => Sys2Proof.Machine.execRetryTimerExpiry s
  | .printerTimeoutExpiry => Sys2Proof.Machine.execPrinterTimeoutExpiry s

end Sys2Proof.Machine
end

