-- ==== Sys2Proof/Safety.lean ====
section
/-! DEFINITION. The vocabulary of statements: the cards of a reply, what flags set in one event make of the line
interface, the commands of the console, and the laws the chapters state, as predicates of a state. -/

namespace Sys2Proof

open Machine

/-! ### Replies -/

/-- The OK card for a kind and its key fields (R8). -/
def okCard (kind : Text) (key : List Text) : Card := { kind := txt "OK", fields := kind :: key }
/-- The NO card for a kind, its key fields and a reason (R8). -/
def noCard (kind : Text) (key : List Text) (r : Reason) : Card :=
  { kind := txt "NO", fields := kind :: key ++ [reasonWord r] }
/-- The AN card for a kind, its key fields and its answer fields (R8). -/
def anCard (kind : Text) (key answer : List Text) : Card := { kind := txt "AN", fields := kind :: key ++ answer }

/-- The line interface with one more card in the transmit queue. -/
def lineSends (c : Card) (x : LineState) : LineState := { x with tx := x.tx ++ [c] }
/-- The state with one more card in the transmit queue, and nothing else changed. -/
def sends (c : Card) (s : State) : State := { s with line := lineSends c s.line }

/-- The commands of the console that wait for a place for their reply (R9): the cards and the assembler's intake. -/
def fromConsole : Instr → Bool
  | .assemblerTakeCharacter | .cardRefusedCheckOrKind .. | .sl .. | .cn .. | .tbStand .. | .tbQueue .. | .tbMeter ..
  | .tbStock .. | .tbPattern .. | .tbFormat .. | .tbAccount .. | .tbRate .. | .md .. | .cb .. | .rl .. | .ul ..
  | .rt .. | .dr .. | .kp .. | .rs .. | .cl .. | .se .. | .qyMode .. | .qyCurrent .. | .qyQueue .. | .qySlip ..
  | .qyRoll .. | .qyFrames .. | .qyAccount .. | .qyCounters .. | .qyInputs .. | .qyEnded .. | .qyEvents ..
  | .qyTable .. | .qyTableDensity .. | .qyTableBracket .. => true
  | .orderLineCharacterReceived _ | .transmitCardSent | .reportDelayExpiry | .lineReset | .standPowerUp _
  | .retentionLatchCleared | .probePulse _ | .referencePhaseEnd | .referenceOverrun | .gatePhaseEnd | .gateOverrun
  | .warmUpExpiry | .guardExpiry | .coolDownExpiry | .exposureTimerExpiry | .rawLevelChange _ _ | .debounceExpiry _
  | .advanceEnd | .advanceTimerExpiry | .labelSent | .printerAnswerA | .printerAnswerB | .printerAnswerS
  | .printerAnswerJ | .printerAnswerR | .retryTimerExpiry | .printerTimeoutExpiry => false

/-! ### Which row a good card is (R7, R11, R12) -/

/-- The row of a TB card, by the table it names (R11). -/
def tableRow (name : Text) (fields : List Text) : Option Instr :=
  if name = txt "STAND" then some (.tbStand fields)
  else if name = txt "QUEUE" then some (.tbQueue fields)
  else if name = txt "METER" then some (.tbMeter fields)
  else if name = txt "STOCK" then some (.tbStock fields)
  else if name = txt "PATTERN" then some (.tbPattern fields)
  else if name = txt "FORMAT" then some (.tbFormat fields)
  else if name = txt "ACCOUNT" then some (.tbAccount fields)
  else if name = txt "RATE" then some (.tbRate fields)
  else none

/-- The row of a QY card, by its subject; QY TABLE of the two fixed tables has rows of its own (R12, R78, R81). -/
def queryRow (subject : Text) (args : List Text) : Option Instr :=
  if subject = txt "MODE" then some (.qyMode args)
  else if subject = txt "CURRENT" then some (.qyCurrent args)
  else if subject = txt "QUEUE" then some (.qyQueue args)
  else if subject = txt "SLIP" then some (.qySlip args)
  else if subject = txt "ROLL" then some (.qyRoll args)
  else if subject = txt "FRAMES" then some (.qyFrames args)
  else if subject = txt "ACCOUNT" then some (.qyAccount args)
  else if subject = txt "COUNTERS" then some (.qyCounters args)
  else if subject = txt "INPUTS" then some (.qyInputs args)
  else if subject = txt "ENDED" then some (.qyEnded args)
  else if subject = txt "EVENTS" then some (.qyEvents args)
  else if subject = txt "TABLE" then
    match args with
    | [] => some (.qyTable [])
    | name :: index =>
      if name = txt "DENSITY" then some (.qyTableDensity index)
      else if name = txt "BRACKET" then some (.qyTableBracket index)
      else some (.qyTable (name :: index))
  else none

/-- The row of a card, by its kind (R7). -/
def cardRow (kind : Text) (fields : List Text) : Option Instr :=
  if kind = txt "SL" then some (.sl fields)
  else if kind = txt "CN" then some (.cn fields)
  else if kind = txt "TB" then tableRow (fields.getD 0 []) (fields.drop 1)
  else if kind = txt "QY" then queryRow (fields.getD 0 []) (fields.drop 1)
  else if kind = txt "MD" then some (.md fields)
  else if kind = txt "CB" then some (.cb fields)
  else if kind = txt "RL" then some (.rl fields)
  else if kind = txt "UL" then some (.ul fields)
  else if kind = txt "DR" then some (.dr fields)
  else if kind = txt "RT" then some (.rt fields)
  else if kind = txt "KP" then some (.kp fields)
  else if kind = txt "RS" then some (.rs fields)
  else if kind = txt "CL" then some (.cl fields)
  else if kind = txt "SE" then some (.se fields)
  else none

/-- The receive buffer's rest and the assembler, after a character was taken from it. -/
def taken (rest : List RxChar) (a : Assembler) (s : State) : State := { s with line := { s.line with rx := rest, asm := a } }

/-! ### Event flags set in one event (R13 to R15) -/

/-- The set flags with more of them set, in report order; a flag already set changes nothing (R13). -/
def joinFlags (fs set : List Flag) : List Flag :=
  if fs.all set.contains then set else Flag.all.filter fun g => fs.contains g || set.contains g

/-- A flag that was clear and is enabled is among those set (R14). -/
def newEnabled (enables fs set : List Flag) : Bool := fs.any fun f => enables.contains f && !set.contains f

/-- What flags set in one event make of the line interface, a report delay of 0 expiring at once (R13 to R15). -/
def raised (st : StandEntry) (fs : List Flag) (x : LineState) : LineState :=
  let flags := joinFlags fs x.flags
  if newEnabled st.enables fs x.flags = true ∧ x.report = .none then
    if st.reportDelay ≠ 0 then
      { x with flags, report := .delaying, reportTimer := some (st.reportDelay * 10 * Config.ms) }
    else if x.tx.length < Config.txPlaces then
      { x with flags, report := .none, reportTimer := none, tx := x.tx ++ [evCard flags] }
    else { x with flags, report := .due, reportTimer := none }
  else { x with flags }

/-! ### States in which the end of an event does nothing more -/

/-- The arbiter has no choice to make and no wait outside a set is evaluated again (R47, R98): the mode is SETUP or
HOLD, or the sequencer is neither IDLE nor in SET_READY outside a set. -/
def undisturbed (s : State) : Bool :=
  !s.modes.current.working
    || (decide (s.seq.state ≠ .idle) && (decide (s.seq.state ≠ .setReady) || s.seq.set.isSome))

/-! ### The arbiter's tests and the completion list, as the chapters state them -/

/-- The roll test (R49): a roll slot is CAMERA and its stock code is the slip's. (At most one slot is CAMERA.) -/
def rollFits (s : State) (c : Slip) : Bool :=
  (cameraSlot s.film).any fun i => (s.film.rolls[i]).any fun r => decide (r.stock = c.stock)

/-- The ceiling test (R49, R191), on the pattern and the fees as they stand. -/
def ceilingFits (s : State) (c : Slip) : Bool :=
  let a := s.money.accounts[c.account]
  let rate := s.money.rates[a.rateClass]
  decide (a.ceiling = 0 ∨
    a.final + a.provisional + (s.tables.pattern[c.pattern]).length * rate.frameFee + rate.copyFee ≤ a.ceiling)

/-- A head slip is eligible: in RUN when both tests pass, in PROOF always (R48, R49). -/
def eligible (s : State) (c : Slip) : Bool :=
  decide (s.modes.current = .proof) || (rollFits s c && ceilingFits s c)

/-- The head of a queue the arbiter tests: the oldest slip of a queue that is neither paused nor empty (R48). -/
def testedHead (s : State) (k : Fin 8) : Option Slip :=
  if (s.store.table[k]).paused then none else (s.store.rings[k]).slips.head?

/-- The base of a queue's region: the sum of the capacities of the queues below it (R42). -/
def regionBase (t : Vector QueueEntry 8) (k : Fin 8) : Nat :=
  (((List.finRange 8).filter (· < k)).map fun j => (t[j]).capacity).sum

/-- The slot one place on from a slot, in the ring order of a queue's region (R42). -/
def nextPlace (t : Vector QueueEntry 8) (k : Fin 8) (slot : Nat) : Nat :=
  regionBase t k + (slot - regionBase t k + 1) % (t[k]).capacity

/-- A queue's ring without its head slip (R42). -/
def withoutHead (t : Vector QueueEntry 8) (k : Fin 8) (r : Ring) : Ring :=
  { slips := r.slips.drop 1, head := nextPlace t k r.head }

/-- The sequencer that has just been handed a slip (R93): REMOVAL with a slide in the gate, otherwise LOADING. The
factor of a slip without a density is the model's, and nothing reads it (log 14). -/
def handed (c : Slip) (gate : Bool) : Seq :=
  { state := if gate then .removal else .loading, wait := none, set := none
    slip := some
      { slip := { c with cancelPending := false }, copy := 1, made := 0, incomplete := 0
        factor := match c.density with | some d => { f256 := factorOfDensity d, mark := none } | none => { f256 := 1, mark := none }
        metered := false, fresh := false } }

/-- The completion list with an entry appended: a list of 32 loses its oldest (R55). -/
def joinEnded (l : List Completion) (c : Completion) : List Completion := (if 32 ≤ l.length then l.drop 1 else l) ++ [c]

/-- The flags an append sets (R55). -/
def endedFlags (l : List Completion) : List Flag := if 32 ≤ l.length then [.ended, .endedLost] else [.ended]

/-! ### The lamp going dark (R121, R122) -/

/-- The guard limit in milliseconds. -/
def guardLimitMs (s : State) : Nat := s.stand.guardLimit * s.stand.guardUnit * 1000

/-- The proportional cool-down in milliseconds: ceil(full cool-down × lit time / guard limit) (R121). -/
def cooling (s : State) : Nat :=
  (s.stand.coolDown * 1000 * (s.lamp.lit / Config.ms) + guardLimitMs s - 1) / guardLimitMs s

/-- The lamp dark, cooling for some milliseconds (R121, R122). -/
def dark (ms : Nat) (l : Lamp) : Lamp :=
  { l with state := .cooling, user := none, warmUp := none, coolDown := some (ms * Config.ms) }

/-- The meter with its metering abandoned or failed: IDLE, and no user (R64, R66, R69). -/
def meterFree (m : Meter) : Meter := { m with phase := .idle, job := none }

/-- The current slip with its lighting lost: lighting metered and fresh are NO (R92). -/
def unlit (x : Current) : Current := { x with metered := false, fresh := false }

/-! ### Edges, rolls, sets and fees, as the chapters state them -/

/-- An event edge setting matches an edge, a rise or a fall (R131). -/
def matchesEdge (setting : EventEdge) (rises : Bool) : Bool :=
  match setting with
  | .both => true
  | .rise => rises
  | .fall => !rises
  | .none => false

/-- A counted edge of an input puts on its edge-seen mark: by its event edge, or for MARK by the STAND mark edge (R131). -/
def marksEdge (st : StandEntry) (i : Input) (rises : Bool) : Bool :=
  match i with
  | .door => matchesEdge st.doorEdge rises
  | .gate => matchesEdge st.gateEdge rises
  | .rollEnd => matchesEdge st.rollEndEdge rises
  | .pause => matchesEdge st.pauseEdge rises
  | .mark => decide (st.markEdge = if rises then .rise else .fall)

/-- The inputs after `n` units of time, with the edge of one of them counted (R129, R131). -/
def edgeCounted (n : Nat) (s : State) (i : Input) : Inputs :=
  let l := s.inputs.line i
  (s.inputs.after n).put i
    { l with debounced := l.raw, timer := none, edgeSeen := l.edgeSeen || marksEdge s.stand i l.raw }

/-- A slot holds the only roll of a number (R134, R139). -/
abbrev holdsRoll (f : Film) (number : Nat) (i : Fin 4) (r : Roll) : Prop :=
  f.rolls[i] = some r ∧ r.number = number ∧ ∀ j : Fin 4, (f.rolls[j]).map Roll.number = some number → j = i

/-- The film with its roll table changed at one slot. -/
def withRoll (i : Fin 4) (r : Option Roll) (f : Film) : Film := { f with rolls := f.rolls.set i r }

/-- The EXPOSED records of a set (R154, R159). -/
def exposedOf (slot : Fin 4) (head : Nat) (rs : List Record) : Nat :=
  (rs.filter fun r => decide (r.slot = slot ∧ r.head = head ∧ r.kind = .exposed)).length

/-- The fees of the records of an account that pass a test. -/
def feesOf (p : Record → Bool) (i : Fin 64) (rs : List Record) : Nat :=
  ((rs.filter fun r => decide (r.account = i) && p r).map Record.fee).sum

/-- The charge unit with every account's provisional balance less the fees of the records that pass a test (R194). -/
def reversed (p : Record → Bool) (rs : List Record) (m : Money) : Money :=
  { m with accounts := Vector.ofFn fun i : Fin 64 =>
      { m.accounts[i] with provisional := (m.accounts[i]).provisional - feesOf p i rs } }

/-- The charge unit after the fees of the records that pass a test have moved from provisional to final: each account's
final balance is held at 999,999,999, with the saturated mark (R195, R197). -/
def finalised (p : Record → Bool) (rs : List Record) (m : Money) : Money :=
  { m with accounts := Vector.ofFn fun i : Fin 64 =>
      let a := m.accounts[i]
      let fees := feesOf p i rs
      { a with
        provisional := a.provisional - fees
        final := min (a.final + fees) 999999999
        saturated := a.saturated || decide (999999999 < a.final + fees) } }

/-- A slip in the store or the current slip passes a test (R85, R187). -/
abbrev someSlip (s : State) (p : Slip → Prop) : Prop :=
  (∃ k : Fin 8, ∃ c ∈ (s.store.rings[k]).slips, p c) ∨ ∃ x ∈ s.seq.slip, p x.slip

/-- The record of a set's later step (R102): it names the head the set has, and carries no set head data. -/
def laterRecord (slot : Fin 4) (frame head : Nat) (c : Current) (x : SetCtx) (t : StepTime) : Record :=
  { slot, frame, kind := .exposing, slip := c.slip.number, account := c.slip.account, copy := c.copy,
    copies := c.slip.copies, head, step := x.step, bracket := x.pattern.getD (x.step - 1) 0, time := t.time,
    marks := t.marks, fee := x.frameFee, decision := .undecided, label := .none, charge := .none, data := none }

/-- A step's marks set CLAMP (R91). -/
def clampFlags (m : Marks) : List Flag :=
  if m.overdense || m.underdense || m.clampLow || m.clampHigh then [.clamp] else []

/-- A frame advance put in flight (R141). -/
def advancing (st : StandEntry) (f : Film) : Film :=
  { f with state := .advancing, flight := some { kind := .frame, edge := st.markEdge, left := st.advanceTimeout * Config.ms } }

/-! ### Sets and slips that begin and end (R97 to R108) -/

/-- The checks of R97 but the lamp's, all of them passing on the camera roll of a slot. -/
structure SetMayStart (s : State) (c : Slip) (i : Fin 4) (roll : Roll) : Prop where
  ready : s.film.state = .ready
  camera : cameraSlot s.film = some i ∧ s.film.rolls[i] = some roll
  stock : roll.stock = c.stock
  frames : roll.next + (s.tables.pattern[c.pattern]).length ≤ roll.capacity + 1
  map : s.records.length + (s.tables.pattern[c.pattern]).length ≤ 2048
  ceiling : ceilingFits s c = true

/-- The exposure conditions but the lamp's, with the shutter CLOSED (R126). -/
structure FitToOpen (s : State) : Prop where
  run : s.modes.current = .run
  shutter : s.shutter.opened = false
  door : s.inputs.door.debounced = false
  gate : s.inputs.gate.debounced = true

/-- A set begun, with its first exposure on a frame (R99, R102, R126): the set context is captured, the record made with
the set head data, and the shutter OPEN for the step's time; CLAMP is set if the step bears one of the four marks. -/
def setBegun (i : Fin 4) (frame : Nat) (c : Current) (pattern : List Int) (u : State) : State :=
  let stock := u.tables.stock[c.slip.stock]
  let rate := u.money.rates[(u.money.accounts[c.slip.account]).rateClass]
  let v := pattern.getD 0 0
  let a := stepTime stock c.factor v
  let record : Record :=
    { slot := i, frame, kind := .exposing, slip := c.slip.number, account := c.slip.account, copy := c.copy,
      copies := c.slip.copies, head := frame, step := 1, bracket := v, time := a.time, marks := a.marks,
      fee := rate.frameFee, decision := .undecided, label := .none, charge := .none
      data := some { status := .opened, catalog := c.slip.catalog, title := c.slip.title, format := c.slip.format,
                     tag := stock.tag, copyFee := rate.copyFee } }
  { u with
    line := raised u.stand (clampFlags a.marks) u.line
    seq :=
      { state := .exposing, wait := none, slip := some { c with metered := true, fresh := false, made := c.made + 1 }
        set := some { stock, pattern, times := pattern.map (stepTime stock c.factor), frameFee := rate.frameFee,
                      copyFee := rate.copyFee, step := 1, head := some frame, again := false } }
    records := insertRecord record u.records
    shutter := { opened := true, timer := some (a.time * Config.tenth) } }

/-- A later step's exposure on a frame (R100 to R102, R126), its set head at `h`. -/
def stepExposed (i : Fin 4) (frame h : Nat) (c : Current) (x : SetCtx) (t : StepTime) (u : State) : State :=
  { u with
    line := raised u.stand (clampFlags t.marks) u.line
    records := insertRecord (laterRecord i frame h c x t) u.records
    shutter := { opened := true, timer := some (t.time * Config.tenth) }
    seq := { state := .exposing, wait := none, slip := some { c with fresh := false }, set := some x } }

/-- The frame map with a set's status given to its head (R107, R157). -/
def headMarked (i : Fin 4) (h : Nat) (status : SetStatus) (rs : List Record) : List Record :=
  rs.map fun r => if r.slot = i ∧ r.frame = h then { r with data := r.data.map fun d => { d with status } } else r

/-- The current slip with a set of it ended (R107). -/
def setOver (complete : Bool) (c : Current) : Current := if complete then c else { c with incomplete := c.incomplete + 1 }

/-- The lamp dark after a voluntary extinguish, the metering abandoned (R69, R121). -/
def darkened (u : State) : State := { u with lamp := dark (cooling u) u.lamp, meter := meterFree u.meter }

/-- A slip ended with an outcome, the gate deciding between REMOVAL and IDLE (R55, R108); flags of the same event before. -/
def slipOut (fs : List Flag) (ending : Ending) (c : Current) (u : State) : State :=
  { u with
    line := raised u.stand (fs ++ endedFlags u.store.ended ++ if u.inputs.gate.debounced then [.remove] else []) u.line
    store := { u.store with
      ended := joinEnded u.store.ended { slip := c.slip.number, ending, made := c.made, incomplete := c.incomplete } }
    seq := { state := if u.inputs.gate.debounced then .removal else .idle, wait := none, slip := none, set := none } }

/-- The outcome of a slip after its last set (R107). -/
def lastEnding (c : Current) : Ending := if c.incomplete = 0 then .done else .short

/-- A set over while a change into SETUP or HOLD is taken (R24, R107, R110): the slip parks with its next copy, or ends. -/
def parkedAfterSet (fs : List Flag) (c : Current) (u : State) : State :=
  if c.slip.cancelPending = true ∨ c.slip.copies ≤ c.copy then
    slipOut fs (if c.slip.cancelPending then .cancelled else lastEnding c) c u
  else
    { u with
      line := raised u.stand fs u.line
      seq := { state := .setReady, wait := none, set := none, slip := some { c with copy := c.copy + 1 } } }

/-- A proof made of the current slip (R112 to R114, R121): its PF card queued, the lamp dark, and the slip PROOFED. -/
def proofMade (c : Current) (u : State) : State :=
  let steps := (u.tables.pattern[c.slip.pattern]).map fun v => (v, stepTime u.tables.stock[c.slip.stock] c.factor v)
  let card : Card :=
    { kind := txt "PF"
      fields := [dec c.slip.number, dec (proofDensity c.factor.f256), dec c.factor.f256]
        ++ steps.flatMap fun p => [stepText p.1, dec p.2.time, marksText p.2.marks] }
  slipOut (if steps.any fun p => clampFlags p.2.marks ≠ [] then [.clamp] else []) .proofed { c with made := 0, incomplete := 0 }
    (darkened { u with line := { u.line with tx := u.line.tx ++ [card], pfWaiting := none } })

/-- The transport is FAULT(DOOR), or NO_ROLL or LOADING after the sequencer was told that the roll leaves: the set start waits
with cause ROLL while it is (R106; log 27). -/
def awaitsRoll (f : Film) : Bool := decide (f.state = .faultDoor ∨ (f.state = .noRoll ∨ f.state = .loading) ∧ f.told = true)

/-- A roll fogged by a door opening (R148, R158, R194), its transport FAULT(DOOR). -/
def fogged (i : Fin 4) (roll : Roll) (u : State) : State :=
  { u with
    film := withRoll i (some { roll with fogged := true }) { u.film with state := .faultDoor, flight := none }
    money := reversed (fun r => decide (r.slot = i ∧ r.kind = .exposed ∧ r.charge = .provisional)) u.records u.money
    records := u.records.map fun r =>
      if r.slot = i ∧ (r.kind = .exposing ∨ r.kind = .exposed) then
        { r with
          kind := .fogged
          charge := if r.kind = .exposing then .none else if r.charge = .provisional then .reversed else r.charge }
      else r }

/-! ### Composing a label (R171, R172) -/

/-- The text of every item but TITLE, whose text is the part of the title still to be shown (R171). -/
def plainText (roll : Roll) (r : Record) (d : SetHead) (s : State) : Item → Text
  | .catalog => d.catalog
  | .title => []
  | .accountName => trimRight (s.money.accounts[r.account]).name
  | .date => trimRight s.stand.date
  | .rollFrame => dec roll.number ++ ['-'] ++ dec r.frame
  | .copy => dec r.copy ++ ['/'] ++ dec r.copies
  | .stockTag => d.tag
  | .text t => t

/-- A label under composition: the line joined so far, the title from the title offset to its end, and whether the offset
is above 0 (R172). -/
structure Joined where
  line : Text
  left : Text
  moved : Bool
deriving DecidableEq, Repr

/-- One more item of a line (R172): its text joined with one space, an empty text left out. A TITLE item's text is the
title from the offset, less the spaces there when the offset is above 0; the offset moves on by those of its characters
that lie within the width. -/
def joinOne (width : Nat) (text : Item → Text) (x : Joined) (i : Item) : Joined :=
  let part := if x.moved then x.left.dropWhile (· = ' ') else x.left
  let word := if i = .title then part else text i
  let place := if x.line = [] then 0 else x.line.length + 1
  let shown := if i = .title then min part.length (width - place) else 0
  { line := if word = [] then x.line else if x.line = [] then word else x.line ++ [' '] ++ word
    left := if shown = 0 then x.left else part.drop shown
    moved := x.moved || decide (shown ≠ 0) }

/-- The composed lines, each cut at the width, the title offset carried from line to line (R172). -/
def labelLines (width : Nat) (text : Item → Text) : Joined → List (List Item) → List Text
  | _, [] => []
  | x, items :: more =>
    let y := items.foldl (joinOne width text) { x with line := [] }
    y.line.take width :: labelLines width text y more

/-- The spool entry of a kept frame, composed by its format entry as it stands (R171 to R173). -/
def labelOf (slot : Fin 4) (roll : Roll) (r : Record) (d : SetHead) (s : State) : SpoolEntry :=
  let f := s.labels.formats[d.format]
  { slot, frame := r.frame
    lines := labelLines f.width (plainText roll r d s) { line := [], left := d.title.getD [], moved := false } f.lines }

/-! ### Feeding (R174, R175) -/

/-- The records of a set (R154). -/
def membersOf (slot : Fin 4) (head : Nat) (rs : List Record) : List Record :=
  rs.filter fun r => decide (r.slot = slot ∧ r.head = head)

/-- The set heads of a slot that lie at or above a frame, in the order of the map (R154, R174). -/
def headsFrom (slot : Fin 4) (frame : Nat) (rs : List Record) : List Nat :=
  (rs.filter fun r => decide (r.slot = slot ∧ r.frame = r.head ∧ frame ≤ r.frame)).map Record.frame

/-- A set is undecided: some record of it is UNDECIDED (R164). -/
abbrev undecidedSet (slot : Fin 4) (head : Nat) (rs : List Record) : Prop :=
  ∃ r ∈ membersOf slot head rs, r.decision = .undecided

/-- The KEEP frame of a set, if its label is still to be composed, with the set head data (R175). -/
def labelDue (slot : Fin 4) (head : Nat) (rs : List Record) : Option (Record × SetHead) :=
  let set := membersOf slot head rs
  match set.find? fun r => decide (r.decision = .keep), set.findSome? Record.data with
  | some r, some d => if r.label = .none then some (r, d) else none
  | _, _ => none

/-- The cursor that has passed a set stands one above its highest record (R174). -/
def pastSet (slot : Fin 4) (head : Nat) (rs : List Record) : Nat :=
  ((membersOf slot head rs).map Record.frame).foldl max 0 + 1

/-- A READY printer with an entry in the spool is sent its head: `L`, the line count and CR, each line and CR, `E` and CR
(R177). -/
def sentIfReady (s : State) : State :=
  match s.labels.printer, s.labels.spool with
  | .ready, l :: _ =>
    { s with labels := { s.labels with
        printer := .sending, timeout := none, retry := none
        sending := ['L'] ++ dec l.lines.length ++ ['\r'] ++ l.lines.flatMap (fun t => t ++ ['\r']) ++ ['E', '\r'] } }
  | _, _ => s

/-- Feeding the MOUNTING roll of a slot (R175). It deals with the sets from the one at which the cursor stands: `done` are
those it passes, each decided, their labels (where one is due) joining a spool of 16 places at most; it stops where no set
is left, at an undecided one, or at one whose label is due while the spool is full. -/
def feedsTo (slot : Fin 4) (s t : State) : Prop :=
  ∃ (roll : Roll) (cursor : Nat) (done rest : List Nat),
    s.film.rolls[slot] = some roll ∧ roll.state = .mounting cursor ∧ headsFrom slot cursor s.records = done ++ rest
    ∧ (∀ h ∈ done, ¬ undecidedSet slot h s.records)
    ∧ (let due := done.filterMap fun h => labelDue slot h s.records
      let spool := s.labels.spool ++ due.map fun p => labelOf slot roll p.1 p.2 s
      (due = [] ∨ spool.length ≤ 16)
      ∧ (∀ h ∈ rest.head?, undecidedSet slot h s.records ∨ (labelDue slot h s.records).isSome = true ∧ 16 ≤ spool.length)
      ∧ t = sentIfReady { s with
          records := s.records.map fun r =>
            if r.slot = slot ∧ r.frame ∈ due.map (fun p => p.1.frame) then { r with label := .spooled } else r
          labels := { s.labels with spool }
          film := withRoll slot
            (some { roll with state := .mounting (match done.getLast? with | some h => pastSet slot h s.records | none => cursor) })
            s.film })

/-- A run of feeding: none under the feed hold (R183) or with no slot MOUNTING. -/
def fed (s t : State) : Prop :=
  (s.labels.feedHold = true ∨ mountingSlot s.film = none → t = s)
    ∧ ∀ i, s.labels.feedHold = false → mountingSlot s.film = some i → feedsTo i s t

/-! ### Close-out and hand-over (R135, R164, R165) -/

/-- A roll can be closed out: every set on it decided, and every KEEP record PRINTED (R164). -/
abbrev settledRoll (slot : Fin 4) (rs : List Record) : Prop :=
  ∀ r ∈ rs, r.slot = slot → r.decision ≠ .undecided ∧ (r.decision = .keep → r.label = .printed)

/-- A roll closed out (R165): its PROVISIONAL fees finalised, its records removed, its slot EMPTY and CLOSED set. -/
def closedOut (slot : Fin 4) (s : State) : State :=
  { s with
    money := finalised (fun r => decide (r.slot = slot ∧ r.charge = .provisional)) s.records s.money
    records := s.records.filter (·.slot ≠ slot)
    film := withRoll slot none { s.film with order := s.film.order.filter (· ≠ slot) }
    line := raised s.stand [.closed] s.line }

/-- The head of the return order taken off it and made MOUNTING, its cursor at frame 1 (R135). -/
def mounted (slot : Fin 4) (rest : List (Fin 4)) (s : State) : State :=
  { s with film := withRoll slot ((s.film.rolls[slot]).map fun r => { r with state := .mounting 1 }) { s.film with order := rest } }

/-- The hand-over (R135): with the return order empty nothing; otherwise its head becomes MOUNTING and is fed, and if it can
be closed out it is, and the hand-over runs again. -/
inductive HandsOver : State → State → Prop where
  | nothing (s : State) : s.film.order = [] → HandsOver s s
  | mounts (s t : State) (i : Fin 4) (rest : List (Fin 4)) :
      s.film.order = i :: rest → fed (mounted i rest s) t → ¬ settledRoll i t.records → HandsOver s t
  | closes (s t u : State) (i : Fin 4) (rest : List (Fin 4)) :
      s.film.order = i :: rest → fed (mounted i rest s) t → settledRoll i t.records → HandsOver (closedOut i t) u →
        HandsOver s u

/-- The close-out check on the MOUNTING roll, with the close-out and the hand-over when it holds (R164, R165). -/
def closeChecked (s t : State) : Prop :=
  match mountingSlot s.film with
  | some i => (settledRoll i s.records → HandsOver (closedOut i s) t) ∧ (¬ settledRoll i s.records → t = s)
  | none => t = s

/-- No two records share slot and frame (R153); the law of the provisional balances says so of every state. -/
abbrev FramesApart (s : State) : Prop := (s.records.map fun r => (r.slot, r.frame)).Nodup

/-! ### The forms of an entry field (R3, R11, R31, R84, R170) -/

/-- The value of a run of digits. -/
def decimal (ds : Text) : Nat := ds.foldl (fun a c => 10 * a + (c.toNat - 48)) 0

/-- A text spells a number: an optional sign followed by 1 to 10 digits (R3). -/
def Spells (t : Text) (v : Int) : Prop :=
  ∃ ds : Text, 1 ≤ ds.length ∧ ds.length ≤ 10 ∧ (∀ c ∈ ds, 48 ≤ c.toNat ∧ c.toNat ≤ 57)
    ∧ ((t = ds ∨ t = '+' :: ds) ∧ v = (decimal ds : Int) ∨ t = '-' :: ds ∧ v = - (decimal ds : Int))

/-- An entry field of a TB card: an empty one keeps the present value, and any other has its form (R11). -/
def wrote (t : Text) (kept form : Prop) : Prop := (t = [] → kept) ∧ (t ≠ [] → form)

/-- A number field of an entry, with its range. -/
def wroteNat (t : Text) (old new lo hi : Nat) : Prop := wrote t (new = old) (Spells t new ∧ lo ≤ new ∧ new ≤ hi)

/-- A text field of an entry, 1 to `n` characters, padded on the right with spaces to `n`. -/
def wrotePadded (t old new : Text) (n : Nat) : Prop :=
  wrote t (new = old) (t.length ≤ n ∧ new = t ++ List.replicate (n - t.length) ' ')

/-- A word field of an entry. -/
def wroteWord {α : Type} (t : Text) (old new : α) (word : α → Text) : Prop := wrote t (new = old) (t = word new)

/-- Words separated by single spaces. -/
def spaced (ws : List Text) : Text := [' '].intercalate ws

/-- The four forms of the event enables: ALL, NONE, flag names, or ALL followed by `-` names (R31). -/
def enablesForm (t : Text) (on : List Flag) : Prop :=
  (t = txt "NONE" ∧ on = [])
    ∨ (∃ fs : List Flag, fs ≠ [] ∧ t = spaced (fs.map flagWord) ∧ on = Flag.all.filter (· ∈ fs))
    ∨ ∃ fs : List Flag, t = spaced (txt "ALL" :: fs.map fun f => '-' :: flagWord f) ∧ on = Flag.all.filter (· ∉ fs)

/-- An item word of a label line (R170). -/
def itemForm : Item → Text
  | .catalog => txt "CATALOG"
  | .title => txt "TITLE"
  | .accountName => txt "ACCOUNT_NAME"
  | .date => txt "DATE"
  | .rollFrame => txt "ROLL_FRAME"
  | .copy => txt "COPY"
  | .stockTag => txt "STOCK_TAG"
  | .text t => txt "TEXT=" ++ t

/-- A line field of a format (R170): NONE, or one to three item words, a TEXT item's text of 1 to 8 characters holding no
space. -/
def lineForm (t : Text) (l : Option (List Item)) : Prop :=
  (t = txt "NONE" ∧ l = none)
    ∨ ∃ is, l = some is ∧ 1 ≤ is.length ∧ is.length ≤ 3 ∧ t = spaced (is.map itemForm)
      ∧ ∀ x, .text x ∈ is → 1 ≤ x.length ∧ x.length ≤ 8 ∧ ' ' ∉ x

/-- The fields of a QY TABLE FORMAT answer: the width, then the lines, NONE beyond the line count (R170). -/
def lineShown : Option (List Item) → Text
  | none => txt "NONE"
  | some is => spaced (is.map itemForm)

/-! ### Laws of the part -/

/-- The capacities the spec gives the part's collections: the transmit queue (R9), the receive buffer (R6), the
completion list (R55), the frame map (R153) and the label spool (R173). -/
structure WithinCapacity (s : State) : Prop where
  tx : s.line.tx.length ≤ Config.txPlaces
  rx : s.line.rx.length ≤ Config.rxPlaces
  ended : s.store.ended.length ≤ Config.endedPlaces
  records : s.records.length ≤ Config.mapPlaces
  spool : s.labels.spool.length ≤ Config.spoolPlaces

/-- The law of the slip store: each queue's count is within its capacity and the capacities sum to at most 96 (R42). -/
structure StoreLaw (s : State) : Prop where
  counts : ∀ k : Fin 8, (s.store.rings[k]).slips.length ≤ (s.store.table[k]).capacity
  room : ((List.finRange 8).map fun k => (s.store.table[k]).capacity).sum ≤ Config.storeSlots

/-- The numbers of the slips in the store and of the current slip. -/
def slipNumbers (s : State) : List Nat :=
  ((List.finRange 8).flatMap fun k => (s.store.rings[k]).slips.map Slip.number)
    ++ match s.seq.slip with | some c => [c.slip.number] | none => []

/-- The law of slip numbers: none appears twice among the slips in the store and the current slip (R36). -/
abbrev NumbersLaw (s : State) : Prop := (slipNumbers s).Nodup

/-- The law of the lamp: it is never LIT or WARMING while its cool-down runs (R122); its warm-up timer runs in
WARMING alone. -/
structure LampLaw (s : State) : Prop where
  cooling : s.lamp.coolDown ≠ none → s.lamp.state = .cooling
  warming : s.lamp.warmUp ≠ none → s.lamp.state = .warming

/-- The law of the shutter (R126): while it is OPEN the five exposure conditions hold, with the sequencer EXPOSING inside a
set, the lamp its own, no metering and no advance in flight. With it what keeps it: an advance in flight is LOADING or
ADVANCING (R138); a metering has the lamp LIT for its user (R69, R92); a lighting metered is a lamp LIT for the sequencer
(R92); a request for the lamp waits in COOLING alone (R118); a PF card waits in PROVING alone (R114), outside a set; and a
set runs in RUN alone (R24). -/
structure ShutterLaw (s : State) : Prop where
  conditions : s.shutter.opened = true → s.lamp.state = .lit ∧ s.modes.current = .run ∧ s.film.state = .ready
    ∧ s.inputs.door.debounced = false ∧ s.inputs.gate.debounced = true
  exposing : s.shutter.opened = true → s.seq.state = .exposing ∧ s.seq.set.isSome = true ∧ s.film.flight = none
    ∧ s.lamp.user = some .sequencer ∧ s.meter.job = none
  flight : s.film.flight ≠ none → s.film.state = .loading ∨ s.film.state = .advancing
  job : ∀ j, s.meter.job = some j →
    s.lamp.state = .lit ∧ s.lamp.user = some j.user ∧ (j.user = .sequencer → s.seq.state = .metering)
  metered : ∀ x, s.seq.slip = some x → x.metered = true →
    s.lamp.state = .lit ∧ s.lamp.user = some .sequencer ∧ s.meter.job = none
  waiting : s.lamp.waiting ≠ none → s.lamp.state = .cooling
  proof : s.line.pfWaiting ≠ none → s.seq.state = .proving
  proving : s.seq.state = .proving → s.seq.set = none
  setInRun : s.seq.set ≠ none → s.modes.current = .run

/-- The order of the frame map (R153): by roll slot and, within a slot, by frame number, lowest first, no two records
sharing both. -/
abbrev MapOrdered (s : State) : Prop :=
  s.records.Pairwise fun x y => x.slot < y.slot ∨ x.slot = y.slot ∧ x.frame < y.frame

/-- The law of a final balance: it never passes its top (R185, R197). -/
def BalanceLaw (s : State) : Prop := ∀ i : Fin 64, (s.money.accounts[i]).final ≤ Config.finalTop

/-- The fees of the PROVISIONAL records that name an account. -/
def provisionalFees (i : Fin 64) (rs : List Record) : Nat :=
  ((rs.filter fun r => decide (r.account = i ∧ r.charge = .provisional)).map Record.fee).sum

/-- The law of the provisional balances (R193), with what keeps it: no two records share slot and frame (R153), and
an EXPOSING record's fee is not PROVISIONAL (R155). -/
structure ProvisionalLaw (s : State) : Prop where
  sums : ∀ i : Fin 64, (s.money.accounts[i]).provisional = provisionalFees i s.records
  distinct : (s.records.map fun r => (r.slot, r.frame)).Nodup
  exposing : ∀ r ∈ s.records, r.kind = .exposing → r.charge ≠ .provisional

end Sys2Proof
end

