-- ==== Sys2Proof/Certificates/Slice0/Obligations.lean ====
section
/-! DEFINITION. The statements for the provers, chapter by chapter of spec/. Where a statement gives a whole next
state as an update of the present one, the update is its frame: every block it does not name is unchanged. -/

open Sys2Proof Sys2Proof.Machine

/-! ### The block and its queue -/

/-- A step takes the command at the front of the queue and runs it on the state with the queue's rest. -/
def Obligations.StepTakesFront : Prop :=
  ∀ (c : Instr) (rest : List Instr) (s : State), s.pending = c :: rest → step s = exec c { s with pending := rest }

/-- With no command waiting the time to the next instant passes (the model's choice, log 2): to the next tenth of a
millisecond, the next tick that a metering counts (32,768 SLOW or 1,048,576 FAST ticks a second, R60, each a whole number
of the model's units of time), the guard limit in LIT, or the end of a running timer, whichever comes first. The clock moves
on, every running timer falls by that time, the lit time rises by it in WARMING and LIT up to the guard limit (R120, R122),
and the time base counts the tick that arrives, the last tick of its phase apart (R60, R63, R64). Every block's contents
stand, and each of the expiries and ends that has come due, with a character the assembler can take, is in the queue, and
nothing else, in the order of log 2. -/
def Obligations.IdleStepPassesTime : Prop :=
  ∀ s : State, s.pending = [] →
    let period (j : MeterJob) : Nat := match j.base with | .slow => 655360000 / 32768 | .fast => 655360000 / 1048576
    let timers : List Timer :=
      [s.line.reportTimer, s.lamp.warmUp, s.lamp.coolDown, s.shutter.timer, s.inputs.door.timer, s.inputs.gate.timer,
        s.inputs.rollEnd.timer, s.inputs.mark.timer, s.inputs.pause.timer, s.film.flight.map Advance.left, s.labels.retry,
        s.labels.timeout]
    let limit := guardLimitMs s * Config.ms
    let ahead : List Nat :=
      [65536 - s.clock % 65536] ++ (s.meter.job.map fun j => period j - s.clock % period j).toList
        ++ (if s.lamp.state = .lit then [limit - s.lamp.lit] else []) ++ timers.flatMap Option.toList
    ∃ n ∈ ahead, 0 < n ∧ (∀ m ∈ ahead, 0 < m → n ≤ m) ∧
    let ticks : Nat := match s.meter.job with
      | some j => (s.clock + n) / period j - s.clock / period j
      | none => 0
    ∃ t, step s = .next t ∧ t.clock = (s.clock + n) % 655360000
      ∧ t.line = { s.line with reportTimer := s.line.reportTimer.map (· - n) }
      ∧ t.shutter = { s.shutter with timer := s.shutter.timer.map (· - n) }
      ∧ t.labels = { s.labels with timeout := s.labels.timeout.map (· - n), retry := s.labels.retry.map (· - n) }
      ∧ t.lamp = { s.lamp with
          lit := if (s.lamp.state = .warming ∨ s.lamp.state = .lit) ∧ s.lamp.lit < limit then min (s.lamp.lit + n) limit
            else s.lamp.lit
          warmUp := s.lamp.warmUp.map (· - n), coolDown := s.lamp.coolDown.map (· - n) }
      ∧ t.meter = { s.meter with
          timeBase := match s.meter.phase with
            | .idle => s.meter.timeBase
            | .reference => max (s.meter.timeBase - ticks) (-1048575)
            | .gate => min (s.meter.timeBase + ticks) (-1) }
      ∧ t.modes = s.modes ∧ t.stand = s.stand ∧ t.latch = s.latch ∧ t.store = s.store ∧ t.tables = s.tables
      ∧ t.seq = s.seq ∧ t.records = s.records ∧ t.money = s.money
      ∧ (∀ i : Input, t.inputs.line i = { s.inputs.line i with timer := (s.inputs.line i).timer.map (· - n) })
      ∧ t.film = { s.film with flight := s.film.flight.map fun a => { a with left := a.left - n } }
      ∧ (Instr.reportDelayExpiry ∈ t.pending ↔ t.line.reportTimer = some 0)
      ∧ (Instr.assemblerTakeCharacter ∈ t.pending ↔ t.line.rx ≠ [] ∧ t.line.tx.length < 16)
      ∧ (Instr.warmUpExpiry ∈ t.pending ↔ t.lamp.warmUp = some 0)
      ∧ (Instr.coolDownExpiry ∈ t.pending ↔ t.lamp.coolDown = some 0)
      ∧ (Instr.exposureTimerExpiry ∈ t.pending ↔ t.shutter.timer = some 0)
      ∧ (Instr.guardExpiry ∈ t.pending ↔ t.lamp.state = .lit ∧ guardLimitMs s ≤ t.lamp.lit / Config.ms)
      ∧ (Instr.referenceOverrun ∈ t.pending ↔ s.meter.phase = .reference ∧ 1048576 ≤ s.meter.timeBase.natAbs + ticks)
      ∧ (Instr.gatePhaseEnd ∈ t.pending ↔ s.meter.phase = .gate ∧ 0 ≤ s.meter.timeBase + ticks)
      ∧ (∀ i : Input, Instr.debounceExpiry i ∈ t.pending ↔ (t.inputs.line i).timer = some 0)
      ∧ (Instr.advanceTimerExpiry ∈ t.pending ↔ t.film.flight.map Advance.left = some 0)
      ∧ (Instr.retryTimerExpiry ∈ t.pending ↔ t.labels.retry = some 0)
      ∧ (Instr.printerTimeoutExpiry ∈ t.pending ↔ t.labels.timeout = some 0)
      ∧ t.pending.Sublist [.reportDelayExpiry, .assemblerTakeCharacter, .warmUpExpiry, .coolDownExpiry, .exposureTimerExpiry,
          .guardExpiry, .referenceOverrun, .gatePhaseEnd, .debounceExpiry .door, .debounceExpiry .gate,
          .debounceExpiry .rollEnd, .debounceExpiry .mark, .debounceExpiry .pause, .advanceTimerExpiry, .retryTimerExpiry,
          .printerTimeoutExpiry]

/-- The line speed is the strap's from the last power-up on (R1). That no command touches the queue of commands, a power-up
among them, and that the strap a power-up samples is the command's operand, is the model's choice (log 23). -/
def Obligations.SpeedChangesAtPowerUpOnly : Prop :=
  ∀ (c : Instr) (s t : State), exec c s = .next t →
    t.pending = s.pending ∧
      match c with
      | .standPowerUp strap => t.line.speed = strap
      | _ => t.line.speed = s.line.speed

/-! ### The order line (spec/01) -/

/-- A character arrives (R1, R6): it joins the tail of a buffer with room, bearing the gap mark of a loss before it; a
framing error, or a character that finds 256 in the buffer, is lost. That a code is read as the character of that code,
above 127 too, is the model's choice (log 24). -/
def Obligations.CharacterReceived : Prop :=
  ∀ s : State,
    exec (.orderLineCharacterReceived .framingError) s = .next { s with line := { s.line with lost := true } }
    ∧ ∀ b : BitVec 8,
      exec (.orderLineCharacterReceived (.code b)) s =
        if s.line.rx.length < 256 then
          .next { s with line := { s.line with rx := s.line.rx ++ [⟨Char.ofNat b.toNat, s.line.lost⟩], lost := false } }
        else .next { s with line := { s.line with lost := true } }

/-- The assembler takes a character that neither ends a card nor makes it too long (R4, R6). A code above 127 fails the
card like any other character that is not printable (the model's choice, log 24). -/
def Obligations.AssemblerTakesCharacter : Prop :=
  ∀ (s : State) (c : RxChar) (rest : List RxChar), s.line.rx = c :: rest → s.line.tx.length < 16 →
    let a := s.line.asm
    let failed := a.failed || c.gap
    let run := exec .assemblerTakeCharacter s
    (a.state = .hunt → c.char ≠ '<' → run = .next (taken rest a s))
    ∧ (c.char = '<' → (a.state = .hunt ∨ a.count < 160) →
        run = .next (taken rest { state := .kind, kind := [], fields := [], check := [], count := 1, failed := false } s))
    ∧ (a.count < 160 → c.char ≠ '<' → c.char ≠ '>' →
        let a' := { a with count := a.count + 1 }
        (a.state = .kind → c.char = '*' →
          run = .next (taken rest { a' with state := .check, failed := failed || decide (a.kind.length < 2) } s))
        ∧ (a.state = .kind → c.char = '|' →
          run = .next (taken rest { a' with state := .body, fields := [[]], failed := failed || decide (a.kind.length < 2) } s))
        ∧ (a.state = .kind → 32 ≤ c.char.toNat → c.char.toNat ≤ 126 → c.char ≠ '*' → c.char ≠ '|' →
          run = .next (taken rest { a' with
            kind := a.kind ++ [c.char]
            failed := failed || !decide (65 ≤ c.char.toNat ∧ c.char.toNat ≤ 90) || decide (2 ≤ a.kind.length) } s))
        ∧ (a.state = .body → c.char = '*' → run = .next (taken rest { a' with state := .check, failed } s))
        ∧ (a.state = .body → c.char = '|' → run = .next (taken rest { a' with fields := a.fields ++ [[]], failed } s))
        ∧ (∀ fs f, a.state = .body → a.fields = fs ++ [f] → 32 ≤ c.char.toNat → c.char.toNat ≤ 126 → c.char ≠ '*' →
          c.char ≠ '|' → run = .next (taken rest { a' with fields := fs ++ [f ++ [c.char]], failed } s))
        ∧ (a.state = .check → (c.char = '*' ∨ c.char = '|') → run = .next (taken rest { a' with failed := true } s))
        ∧ (a.state = .check → 32 ≤ c.char.toNat → c.char.toNat ≤ 126 → c.char ≠ '*' → c.char ≠ '|' →
          run = .next (taken rest { a' with
            check := a.check ++ [c.char], failed := failed || decide (2 ≤ a.check.length) } s))
        ∧ (a.state ≠ .hunt → (c.char.toNat < 32 ∨ 126 < c.char.toNat) →
          run = .next (taken rest { a' with failed := true } s)))

/-- A card whose `>` is taken, with no failed mark and the right check, is carried out as its row of the command table
in the same event; a TB card that names no writable table and a QY card of no known subject are refused FIELD (R7,
R11, R12). That the refusal of an unknown subject echoes every argument received is the model's choice (log 17). -/
def Obligations.GoodCardIsItsRow : Prop :=
  ∀ (s : State) (rest : List RxChar), s.line.rx = ⟨'>', false⟩ :: rest → s.line.tx.length < 16 →
    s.line.asm.state = .check → s.line.asm.failed = false → s.line.asm.count < 160 →
    s.line.asm.check = checkText s.line.asm.kind s.line.asm.fields →
    let kind := s.line.asm.kind
    let fields := s.line.asm.fields
    let s' := taken rest .hunting s
    (∀ i, cardRow kind fields = some i → exec .assemblerTakeCharacter s = exec i s')
    ∧ (kind = txt "TB" → tableRow (fields.getD 0 []) (fields.drop 1) = none →
        exec .assemblerTakeCharacter s = .next (sends (noCard kind [fields.getD 0 [], fields.getD 1 []] .field) s'))
    ∧ (kind = txt "QY" → fields ≠ [] → queryRow (fields.getD 0 []) (fields.drop 1) = none →
        exec .assemblerTakeCharacter s = .next (sends (noCard kind fields .field) s'))

/-- A card whose `>` is taken is refused CHECK if it is damaged, framed wrongly or its check is wrong, and otherwise
KIND if its kind is none of the fourteen (R7); the row for such a card says the same of it, the assembler untouched
(the model's choice, log 7). Which key fields a card of each kind and subject has, none for a strange kind, is the
model's reading (log 17). The 161st character of a card under assembly discards it, whatever it is: NO LONG with the
kind as received, empty with fewer than two kind characters, and the key fields that a `|` had completed (R5); that
the 161st character itself, be it a `|` or a letter, completes nothing is the model's choice (log 25). -/
def Obligations.BadCardIsRefused : Prop :=
  (∀ (s : State) (c : RxChar) (rest : List RxChar), s.line.rx = c :: rest → c.char = '>' → s.line.tx.length < 16 →
    s.line.asm.state ≠ .hunt → s.line.asm.count < 160 →
    let a := s.line.asm
    let bad := a.failed = true ∨ c.gap = true ∨ a.state ≠ .check ∨ a.check ≠ checkText a.kind a.fields
    (bad → exec .assemblerTakeCharacter s =
        .next (sends (noCard a.kind (keyFields a.kind a.fields) .check) (taken rest .hunting s)))
    ∧ (¬ bad → a.kind ∉ [txt "CB", txt "CL", txt "CN", txt "DR", txt "KP", txt "MD", txt "QY", txt "RL", txt "RS",
          txt "RT", txt "SE", txt "SL", txt "TB", txt "UL"] →
        exec .assemblerTakeCharacter s = .next (sends (noCard a.kind [] .kind) (taken rest .hunting s))))
  ∧ (∀ (s : State) (failed : Bool) (kind : Text) (fields : List Text) (check : Text), s.line.tx.length < 16 →
    (failed = true ∨ check ≠ checkText kind fields →
      exec (.cardRefusedCheckOrKind failed kind fields check) s =
        .next (sends (noCard kind (keyFields kind fields) .check) s))
    ∧ (failed = false → check = checkText kind fields → cardRow kind fields = none → kind ≠ txt "TB" → kind ≠ txt "QY" →
        exec (.cardRefusedCheckOrKind failed kind fields check) s = .next (sends (noCard kind [] .kind) s)))
  ∧ ∀ (s : State) (c : RxChar) (rest : List RxChar), s.line.rx = c :: rest → s.line.tx.length < 16 →
    s.line.asm.state ≠ .hunt → s.line.asm.count = 160 →
    let kind := if s.line.asm.kind.length < 2 then [] else s.line.asm.kind
    exec .assemblerTakeCharacter s =
      .next (sends (noCard kind (keyFields kind s.line.asm.fields.dropLast) .long) (taken rest .hunting s))

/-- While the transmit queue holds 16 cards the assembler takes no character (R9); a card row that meets such a queue is
not taken either, and leaves the state as it was (the model's choice, log 6). -/
def Obligations.FullQueueStopsIntake : Prop :=
  ∀ (c : Instr) (s : State), fromConsole c = true → 16 ≤ s.line.tx.length → exec c s = .next s

/-- The head card leaves when its `>` has been sent (R9). With no PF card waiting, the place goes to a DUE report,
whose EV card names every set flag; with none set no card is built (R15). When the report delay runs out (R15) the
remaining time passes, and the EV card enters the queue, or waits as DUE when no place is free, or is not built when
no flag is set. A PF card that waited takes the place first, and its slip ends PROOFED in the same event, with counts
0 and 0: here with a slide in the gate and the lamp OFF, where the sequencer goes to REMOVAL (R54, R108, R114), and a
DUE report that waits beside it keeps waiting when the card takes the one place freed. That ENDED and REMOVE stand on
one EV card, after the PF card, with a report delay of 0 is the model's choice (log 10). The time the delay has left
passes first (the model's choice, log 3). -/
def Obligations.CardSentFreesPlace : Prop :=
  (∀ (s : State) (c : Card) (rest : List Card), s.line.tx = c :: rest → s.line.pfWaiting = none →
    rest.length < 16 →
    exec .transmitCardSent s =
      .next { s with line :=
        if s.line.report = .due then
          { s.line with
            report := .none
            tx := if s.line.flags = [] then rest else rest ++ [⟨txt "EV", s.line.flags.map flagWord⟩] }
        else { s.line with tx := rest } })
  ∧ (∀ (s : State) (c pf : Card) (rest : List Card) (x : Current), s.line.tx = c :: rest → rest.length < 16 →
    s.line.pfWaiting = some pf → (s.line.report ≠ .due ∨ rest.length = 15) → s.seq.slip = some x → s.inputs.gate.debounced = true →
    s.lamp.state = .off → s.store.ended.length < 32 →
    exec .transmitCardSent s =
      .next { s with
        line := raised s.stand [.ended, .remove] { s.line with tx := rest ++ [pf], pfWaiting := none }
        store := { s.store with ended := s.store.ended ++ [⟨x.slip.number, .proofed, 0, 0⟩] }
        seq := { state := .removal, wait := none, slip := none, set := none } })
  ∧ ∀ (s : State) (n : Nat), s.line.reportTimer = some n → s.line.report = .delaying →
    exec .reportDelayExpiry s =
      .next { elapse n s with line :=
        if 16 ≤ s.line.tx.length then { s.line with report := .due, reportTimer := none }
        else if s.line.flags = [] then { s.line with report := .none, reportTimer := none }
        else { s.line with
          report := .none, reportTimer := none, tx := s.line.tx ++ [⟨txt "EV", s.line.flags.map flagWord⟩] } }

/-- A CL card clears the flags it names, or all for ALL, and with REFUSED among them every overflowed mark; it is refused
FIELD with no field, with a field that is no flag's name, or with ALL beside others (R17, R44). -/
def Obligations.FlagsAreCleared : Prop :=
  ∀ s : State, s.line.tx.length < 16 →
    (∀ names : List Flag, names ≠ [] →
      exec (.cl (names.map flagWord)) s =
        .next (sends (okCard (txt "CL") []) { s with
          line := { s.line with flags := s.line.flags.filter (· ∉ names) }
          store := { s.store with
            overflowed := if Flag.refused ∈ names then Vector.replicate 8 false else s.store.overflowed } }))
    ∧ exec (.cl [txt "ALL"]) s =
        .next (sends (okCard (txt "CL") []) { s with
          line := { s.line with flags := [] }, store := { s.store with overflowed := Vector.replicate 8 false } })
    ∧ ∀ fields : List Text, fields ≠ [txt "ALL"] → (fields = [] ∨ ∃ w ∈ fields, ∀ f : Flag, flagWord f ≠ w) →
      exec (.cl fields) s = .next (sends (noCard (txt "CL") [] .field) s)

/-- A line reset (R19) clears the receive buffer and the assembler, withdraws the report and leaves of the transmit queue
the card being sent, its head (the model's choice, log 8); a PF card that waits outside the queue keeps waiting, though
the queue now has places (R19, R114; the model's reading, log 9). It makes a HOLD request (R28): in HOLD nothing pends; in
RUN, inside a set and at no legal point, the change pends at BOUNDARY; in SETUP with the sequencer IDLE, and in RUN and
PROOF with it in PROVING, HOLD is taken with no feed hold on and MODE set, the PROVING slip going on under HOLD (R23,
R110, R114). -/
def Obligations.LineResetClears : Prop :=
  ∀ s : State,
    let line := { s.line with
      rx := [], lost := false, asm := .hunting, report := .none, reportTimer := none, tx := s.line.tx.take 1 }
    (s.modes.current = .hold →
      exec .lineReset s = .next { s with line, modes := { requested := .hold, current := .hold, change := .none } })
    ∧ (s.modes.current = .run → (s.seq.state = .exposing ∨ s.seq.state = .advancing) → s.seq.set.isSome = true →
      exec .lineReset s = .next { s with line, modes := { requested := .hold, current := .run, change := .boundary } })
    ∧ ((s.modes.current = .setup ∧ s.seq.state = .idle ∨ (s.modes.current = .run ∨ s.modes.current = .proof) ∧ s.seq.state = .proving) →
        s.lamp.state = .off → s.seq.set = none → s.shutter.opened = false → s.labels.feedHold = false →
      exec .lineReset s =
        .next { s with
          line := raised s.stand [.mode] line, modes := { requested := .hold, current := .hold, change := .none } })

/-! ### Modes and start-up (spec/02) -/

/-- An MD card whose change is not taken (R22 to R25): for the current mode it withdraws what pends; from RUN, inside a
set and at no legal point, it pends at BOUNDARY; for RUN or PROOF with a calibration in flight, at CAL. A card that does
not carry exactly one mode word is refused FIELD. -/
def Obligations.ModeRequestJudged : Prop :=
  ∀ s : State, s.line.tx.length < 16 →
    (∀ m : Mode,
      let answered (change : PendingChange) := Host.Outcome.next (sends (okCard (txt "MD") [modeWord m])
        { s with modes := { requested := m, current := s.modes.current, change } })
      (m = s.modes.current → exec (.md [modeWord m]) s = answered .none)
      ∧ (s.modes.current = .run → m ≠ .run → s.seq.set.isSome = true → s.seq.state ≠ .warming → s.seq.state ≠ .metering →
          ¬ (s.seq.state = .setReady ∧ (s.seq.wait = some .transport ∨ s.seq.wait = some .lamp)) →
          exec (.md [modeWord m]) s = answered .boundary)
      ∧ ((s.modes.current = .setup ∨ s.modes.current = .hold) → (m = .run ∨ m = .proof) → s.meter.calibrating = true →
          exec (.md [modeWord m]) s = answered .cal))
    ∧ ∀ fields : List Text, (∀ m : Mode, fields ≠ [modeWord m]) →
        exec (.md fields) s = .next (sends (noCard (txt "MD") [fields.getD 0 []] .field) s)

/-- A change of mode taken (R22 to R26, R110, R111, R184): the current mode is the requested one, nothing pends, MODE
is set, a feed hold is released, and the sequencer parks or resumes as its state asks. First an MD card outside a set,
into each mode from each: the clauses name the states; where the lamp serves the sequencer, parking extinguishes it
for the proportional cool-down (R121) and the metering in flight is abandoned (R69). Then a card that meets the
sequencer at a legal point inside a set (R24): the set ends INCOMPLETE, and the slip parks with its next copy, or
ends. Into PROOF it goes on instead: a LAMP wait waits on, by the proof checks, and a relight's metering runs on (the
model's choice, log 12). Then a change that pends at BOUNDARY, taken as the set ends after its last step, or as a jam
brings the wait on TRANSPORT. Then one that pends at CAL, taken as a calibration ends, here by a gate overrun (R25,
R66, R73; its counter at the top: log 15). A slip that goes on between RUN and PROOF keeps its state, and a wait is
evaluated by the checks of the new mode (R98, R111). With a report delay of 0 the reply and the EV card of the same
event stand in that order, and flags of one event on one EV card (the model's choice, log 10). The time the advance timer
has left passes before its expiry (the model's choice, log 3), and ADVANCE_END ends the advance whatever its edge, the
inputs untouched (the model's reading, log 16). A wait of a set start for the roll of R106 shows ROLL with the lamp COOLING too
(its reach: the model's reading, log 27). -/
def Obligations.ModeChangeTaken : Prop :=
  (∀ (s : State) (m : Mode), s.line.tx.length < 16 → m ≠ s.modes.current → s.seq.set = none → s.shutter.opened = false →
      s.meter.calibrating = false → (s.labels.feedHold = true → mountingSlot s.film = none) →
      let t := sends (okCard (txt "MD") [modeWord m]) { s with
        modes := { requested := m, current := m, change := .none }, labels := { s.labels with feedHold := false } }
      let told (fs : List Flag) (x : Seq) : State := { t with line := raised s.stand fs t.line, seq := x }
      ((m = .setup ∨ m = .hold) → s.lamp.state = .off → (s.seq.state = .idle ∨ s.seq.state = .removal ∨ s.seq.state = .loading) →
        exec (.md [modeWord m]) s = .next (told [.mode] s.seq))
      ∧ ((m = .setup ∨ m = .hold) → s.lamp.state = .off → s.seq.state = .setReady →
        exec (.md [modeWord m]) s = .next (told [.mode] { s.seq with wait := none }))
      ∧ (∀ x, (m = .setup ∨ m = .hold) → (s.seq.state = .warming ∨ s.seq.state = .metering) → s.seq.slip = some x →
        (s.lamp.state = .warming ∨ s.lamp.state = .lit) → s.lamp.user = some .sequencer →
        0 < cooling s →
        exec (.md [modeWord m]) s =
          .next { told [.mode] { state := .setReady, wait := none, set := none, slip := some (unlit x) } with
            lamp := dark (cooling s) s.lamp, meter := meterFree s.meter })
      ∧ ((m = .run ∨ m = .proof) → (s.modes.current = .setup ∨ s.modes.current = .hold) →
          (s.seq.state = .idle → ∀ k : Fin 8, (s.store.table[k]).paused = true ∨ (s.store.rings[k]).slips = []) →
          (s.seq.state = .idle →
            exec (.md [modeWord m]) s = .next (told [.mode] s.seq))
          ∧ (s.seq.state = .removal → s.seq.slip.isSome = true → s.inputs.gate.debounced = false →
            exec (.md [modeWord m]) s = .next (told [.mode, .original] { s.seq with state := .loading, wait := none }))
          ∧ (s.seq.state = .setReady → s.inputs.gate.debounced = false →
            exec (.md [modeWord m]) s = .next (told [.mode, .original] { s.seq with state := .loading, wait := none }))
          ∧ (s.seq.state = .loading → s.inputs.gate.debounced = true → s.lamp.state = .off → s.meter.entry.warmUp ≠ 0 →
            exec (.md [modeWord m]) s =
              .next { told [.mode] { s.seq with state := .warming, wait := none } with
                lamp := { s.lamp with
                  state := .warming, user := some .sequencer, lit := 0, warmUp := some (s.meter.entry.warmUp * 10 * Config.ms) } })))
  ∧ (∀ (s : State) (m : Mode), s.line.tx.length < 16 → m ≠ s.modes.current → (m = .run ∨ m = .proof) →
      (s.modes.current = .run ∨ s.modes.current = .proof) → s.seq.set = none → s.shutter.opened = false →
      (s.labels.feedHold = true → mountingSlot s.film = none) →
      let t := sends (okCard (txt "MD") [modeWord m]) { s with
        modes := { requested := m, current := m, change := .none }, labels := { s.labels with feedHold := false } }
      let told (x : Seq) : State := { t with line := raised s.stand [.mode] t.line, seq := x }
      ((s.seq.state = .idle → ∀ k : Fin 8, (s.store.table[k]).paused = true ∨ (s.store.rings[k]).slips = []) →
        s.seq.state ≠ .setReady → exec (.md [modeWord m]) s = .next (told s.seq))
      ∧ (s.seq.state = .setReady → s.seq.slip.isSome = true → s.lamp.state = .off →
        (m = .run → cameraSlot s.film = none →
          exec (.md [modeWord m]) s = .next (told { s.seq with wait := some .roll }))
        ∧ (m = .proof → s.meter.job = none → s.meter.entry.warmUp ≠ 0 →
          exec (.md [modeWord m]) s = .next { told { s.seq with state := .warming, wait := none } with
            lamp := { s.lamp with
              state := .warming, user := some .sequencer, lit := 0, warmUp := some (s.meter.entry.warmUp * 10 * Config.ms) } }))
      ∧ (s.seq.state = .setReady → s.seq.slip.isSome = true → s.lamp.state = .cooling → s.lamp.user = none →
        exec (.md [modeWord m]) s =
          .next (told { s.seq with wait := some (if m = .run ∧ awaitsRoll s.film = true then .roll else .lamp) })))
  ∧ (∀ (s : State) (m : Mode) (x : SetCtx) (c : Current) (i : Fin 4) (h : Nat), (m = .setup ∨ m = .hold) →
      s.modes.current = .run → s.seq.set = some x → x.head = some h → s.seq.slip = some c → cameraSlot s.film = some i →
      s.shutter.opened = false → (s.labels.feedHold = true → mountingSlot s.film = none) →
      let taken (u : State) : State := { u with
        modes := { requested := m, current := m, change := .none }, labels := { s.labels with feedHold := false } }
      let ok := okCard (txt "MD") [modeWord m]
      let marked (status : SetStatus) (u : State) : State := { u with records := headMarked i h status s.records }
      (s.line.tx.length < 16 →
        (s.seq.state = .warming ∨ s.seq.state = .metering
          ∨ s.seq.state = .setReady ∧ (s.seq.wait = some .transport ∨ s.seq.wait = some .lamp)) →
        let u := marked .incomplete (taken (sends ok s))
        (s.lamp.state = .off ∨ s.lamp.state = .cooling ∧ s.lamp.waiting = none →
          exec (.md [modeWord m]) s = .next (parkedAfterSet [.mode] (setOver false c) u))
        ∧ ((s.lamp.state = .warming ∨ s.lamp.state = .lit) → s.lamp.user = some .sequencer → s.lamp.waiting = none →
          0 < cooling s →
          exec (.md [modeWord m]) s = .next (parkedAfterSet [.mode] (unlit (setOver false c)) (darkened u))))
      ∧ (∀ (a : Advance) (roll : Roll), s.modes.change = .boundary → s.modes.requested = m → s.seq.state = .advancing →
        s.film.flight = some a → a.kind = .frame → s.film.rolls[i] = some roll → s.lamp.state = .lit →
        s.lamp.user = some .sequencer → s.lamp.waiting = none →
        (x.step = x.pattern.length → x.again = false → 0 < cooling s →
          exec .advanceEnd s = .next (parkedAfterSet [.mode] (unlit (setOver true c)) (darkened (marked .complete (taken { s with
            film := { s.film with
              state := .ready, flight := none, rolls := s.film.rolls.set i (some { roll with next := roll.next + 1 }) } })))))
        ∧ (let e := elapse a.left s
          0 < cooling e →
          exec .advanceTimerExpiry s = .next (parkedAfterSet [.jam, .mode] (unlit (setOver false c))
            { darkened e with
              modes := { requested := m, current := m, change := .none }
              labels := { e.labels with feedHold := false }
              records := headMarked i h .incomplete s.records
              film := { e.film with state := .faultJam .frame, flight := none } }))))
  ∧ (∀ (s : State) (x : SetCtx) (c : Current) (i : Fin 4) (h : Nat), s.line.tx.length < 16 → s.modes.current = .run →
      s.seq.set = some x → x.head = some h → s.seq.slip = some c → cameraSlot s.film = some i → c.slip.cancelPending = false →
      c.copy < c.slip.copies → s.shutter.opened = false → (s.labels.feedHold = true → mountingSlot s.film = none) →
      let u := sends (okCard (txt "MD") [modeWord .proof]) { s with
        modes := { requested := .proof, current := .proof, change := .none }, labels := { s.labels with feedHold := false }
        records := headMarked i h .incomplete s.records }
      let goes (st : SeqState) (w : Option WaitCause) : State := { u with
        line := raised s.stand [.mode] u.line
        seq := { state := st, wait := w, set := none, slip := some { setOver false c with copy := c.copy + 1 } } }
      (s.seq.state = .setReady → s.seq.wait = some .lamp → s.lamp.state = .cooling → s.lamp.user = none →
        exec (.md [modeWord .proof]) s = .next (goes .setReady (some .lamp)))
      ∧ (∀ j, s.seq.state = .metering → s.meter.job = some j → j.user = .sequencer → s.lamp.state = .lit → c.metered = false →
        exec (.md [modeWord .proof]) s = .next (goes .metering none)))
  ∧ ∀ (s : State) (j : MeterJob) (m : Mode), (m = .run ∨ m = .proof) → s.modes.requested = m → s.modes.change = .cal →
      (s.modes.current = .setup ∨ s.modes.current = .hold) → s.meter.phase = .gate → s.meter.job = some j →
      j.user = .calibration → s.lamp.state = .lit → s.lamp.user = some .calibration → 0 < cooling s → s.seq.set = none →
      s.shutter.opened = false → (s.labels.feedHold = true → mountingSlot s.film = none) →
      let ends (fs : List Flag) (x : Seq) : State := { s with
        line := raised s.stand (.meter :: .mode :: fs) s.line
        modes := { requested := m, current := m, change := .none }
        labels := { s.labels with feedHold := false }
        lamp := dark (cooling s) s.lamp
        meter := { meterFree s.meter with calibrating := false, count := 16777215 }
        seq := { x with slip := x.slip.map unlit } }
      (s.seq.state = .idle → (∀ k : Fin 8, (s.store.table[k]).paused = true ∨ (s.store.rings[k]).slips = []) →
        exec .gateOverrun s = .next (ends [] s.seq))
      ∧ (s.seq.state = .setReady → s.inputs.gate.debounced = false →
        exec .gateOverrun s = .next (ends [.original] { s.seq with state := .loading, wait := none }))

/-- A stand power-up that finds its latch set (R20, R21, R29, R58, R62, R116, R117, R125, R133, R137, R152, R169, R183):
the cell-backed state is kept, brought into agreement with the loss of work in flight; the stand-powered state starts
afresh; START is set. The MOUNTING slot's label cursor stands at the head of the first set that is undecided or has a KEEP
frame not PRINTED, and with no such set one above the roll's highest record (R183). The strap is the command's operand (the
model's choice, log 23), and what the sequencer was told of a roll is gone (the model's reading, log 27). -/
def Obligations.PowerUpKeepsTheCell : Prop :=
  ∀ (strap : LineSpeed) (s : State), s.latch = true →
    let unlabelled (i : Fin 4) (h : Nat) (rs : List Record) : Prop :=
      ∃ x ∈ membersOf i h rs, x.decision = .undecided ∨ x.decision = .keep ∧ x.label ≠ .printed
    ∃ t, exec (.standPowerUp strap) s = .next t
      ∧ t.line = raised s.stand [.start]
          { speed := strap, rx := [], lost := false, asm := .hunting, tx := [], pfWaiting := none, report := .none,
            reportTimer := none, flags := [] }
      ∧ t.modes = { requested := .setup, current := .setup, change := .none }
      ∧ t.stand = s.stand ∧ t.latch = true ∧ t.tables = s.tables ∧ t.money = s.money
      ∧ t.store.table = s.store.table ∧ t.store.ended = [] ∧ t.store.unknownAccount = 0 ∧ t.store.queueFull = 0
      ∧ t.store.overflowed = Vector.replicate 8 false
      ∧ (∀ k : Fin 8, t.store.rings[k] =
          { slips := [], head := (((List.finRange 8).filter (· < k)).map fun j => (s.store.table[j]).capacity).sum })
      ∧ t.meter = { entry := s.meter.entry, count := 0, timeBase := 0, phase := .idle, job := none, lastRef := 0,
                    calibrating := false }
      ∧ t.seq = { state := .idle, wait := none, slip := none, set := none }
      ∧ t.lamp =
          (if s.stand.coolDown = 0 then
            { state := .off, user := none, waiting := none, lit := 0, warmUp := none, coolDown := none }
          else
            { state := .cooling, user := none, waiting := none, lit := 0, warmUp := none
              coolDown := some (s.stand.coolDown * 1000 * Config.ms) })
      ∧ t.shutter = { opened := false, timer := none }
      ∧ (∀ i : Input, t.inputs.line i =
          { raw := (s.inputs.line i).raw, debounced := (s.inputs.line i).raw, timer := none, edgeSeen := false })
      ∧ t.film.flight = none ∧ t.film.order = s.film.order ∧ t.film.told = false
      ∧ t.film.state =
          (match cameraSlot s.film with
          | some i => if (s.film.rolls[i]).any Roll.fogged then .faultDoor else .suspLost
          | none => .noRoll)
      ∧ (∀ i : Fin 4, (s.film.rolls[i]).any Roll.isMounting = false → t.film.rolls[i] = s.film.rolls[i])
      ∧ (∀ (i : Fin 4) (r : Roll), s.film.rolls[i] = some r → r.isMounting = true →
          ∃ cursor, t.film.rolls[i] = some { r with state := .mounting cursor }
            ∧ ((∃ before after, headsFrom i 0 t.records = before ++ cursor :: after ∧ unlabelled i cursor t.records
                  ∧ ∀ h ∈ before, ¬ unlabelled i h t.records)
              ∨ ((∀ h ∈ headsFrom i 0 t.records, ¬ unlabelled i h t.records) ∧ (∀ x ∈ t.records, x.slot = i → x.frame < cursor)
                  ∧ (cursor = 1 ∨ ∃ x ∈ t.records, x.slot = i ∧ x.frame + 1 = cursor))))
      ∧ t.records = s.records.map (fun r => { r with
          kind := if r.kind = .exposing then .spoiled else r.kind
          charge := if r.kind = .exposing then .none else r.charge
          label := if r.label = .spooled then .none else r.label
          data := r.data.map fun d => { d with status := if d.status = .opened then .incomplete else d.status } })
      ∧ t.labels = { formats := s.labels.formats, spool := [], printer := .ready, sending := [], timeout := none,
                     retry := none, feedHold := true }

/-- The latch is cleared when the cell fails, and nothing else happens (R29); a power-up that finds it clear is a cell
start (R30): the state is the reset state, the strap's speed, the inputs' raw levels and the model's own fields kept. What
the reset state holds where no rule gives a value (log 4), that the strap is the command's operand, and that the queue of
commands and the clock's place are kept (log 23), is the model's choice. -/
def Obligations.CellStart : Prop :=
  ∀ s : State,
    exec .retentionLatchCleared s = .next { s with latch := false }
    ∧ ∀ strap : LineSpeed, s.latch = false →
      ∃ t, exec (.standPowerUp strap) s = .next t
        ∧ t = { State.reset with
            line := { State.reset.line with speed := strap }, inputs := t.inputs, clock := s.clock, pending := s.pending }
        ∧ ∀ i : Input, t.inputs.line i =
            { raw := (s.inputs.line i).raw, debounced := (s.inputs.line i).raw, timer := none, edgeSeen := false }

/-! ### Slips and queues (spec/03) -/

/-- An SL card is refused FIELD, before any other check, when it has fewer than nine fields or more than ten, when a field
is malformed or out of range, or when it names an undefined stock; and DUPLICATE when its number is that of a slip in the
store or current. Nothing but the reply changes (R34, R35, R36). -/
def Obligations.SlipRefusedFieldOrDuplicate : Prop :=
  ∀ (s : State) (fields : List Text), s.line.tx.length < 16 →
    let f (n : Nat) : Text := fields.getD n []
    let refused (r : Reason) := Host.Outcome.next (sends (noCard (txt "SL") [f 0] r) s)
    ((fields.length < 9 ∨ 10 < fields.length ∨ natField 1 65535 (f 0) = none
        ∨ (f 1).length ≠ 4 ∨ (∃ c ∈ f 1, ¬ (65 ≤ c.toNat ∧ c.toNat ≤ 90) ∧ ¬ (48 ≤ c.toNat ∧ c.toNat ≤ 57))
        ∨ natField 0 7 (f 2) = none ∨ (f 3).length = 0 ∨ 12 < (f 3).length ∨ 40 < (f 4).length
        ∨ natField 1 9 (f 5) = none ∨ natField 0 7 (f 6) = none ∨ natField 0 15 (f 7) = none
        ∨ natField 0 7 (f 8) = none ∨ (f 9 ≠ [] ∧ natField 0 400 (f 9) = none)) →
      exec (.sl fields) s = refused .field)
    ∧ ∀ x, slipFields fields = some x →
      ((s.tables.stock[x.stock]).base = 0 → exec (.sl fields) s = refused .field)
      ∧ ((s.tables.stock[x.stock]).base ≠ 0 → x.number ∈ slipNumbers s → exec (.sl fields) s = refused .duplicate)

/-- R37, R38 and R39. An SL card whose account code matches no OPEN entry is refused ACCOUNT: the unknown-account
counter counts, up to 65,535, and REFUSED is set. One that names a queue of capacity 0 is refused QUEUE and changes
nothing else. One that names a queue whose count equals its capacity is refused FULL, paused or not: the queue-full
counter counts, up to 65,535, the queue's overflowed mark is put on and REFUSED is set. With a report delay of 0 the
reply stands before the EV card of the same event (the model's choice, log 10). -/
def Obligations.SlipRefusedAccountQueueFull : Prop :=
  (∀ (s : State) (fields : List Text) (x : SlipFields), s.line.tx.length < 16 → slipFields fields = some x →
    (s.tables.stock[x.stock]).base ≠ 0 → x.number ∉ slipNumbers s →
    (∀ i : Fin 64, ¬ ((s.money.accounts[i]).state = .opened ∧ (s.money.accounts[i]).code = some x.code)) →
    exec (.sl fields) s = .next { s with
      line := raised s.stand [.refused] (lineSends (noCard (txt "SL") [fields.getD 0 []] .account) s.line)
      store := { s.store with
        unknownAccount := if s.store.unknownAccount < 65535 then s.store.unknownAccount + 1 else s.store.unknownAccount } })
  ∧ ∀ (s : State) (fields : List Text) (x : SlipFields) (i : Fin 64), s.line.tx.length < 16 → slipFields fields = some x →
    (s.tables.stock[x.stock]).base ≠ 0 → x.number ∉ slipNumbers s →
    (s.money.accounts[i]).state = .opened → (s.money.accounts[i]).code = some x.code →
    let no (r : Reason) := noCard (txt "SL") [fields.getD 0 []] r
    ((s.store.table[x.queue]).capacity = 0 → exec (.sl fields) s = .next (sends (no .queue) s))
    ∧ ((s.store.table[x.queue]).capacity ≠ 0 →
        (s.store.rings[x.queue]).slips.length = (s.store.table[x.queue]).capacity →
        exec (.sl fields) s = .next { s with
          line := raised s.stand [.refused] (lineSends (no .full) s.line)
          store := { s.store with
            queueFull := if s.store.queueFull < 65535 then s.store.queueFull + 1 else s.store.queueFull
            overflowed := s.store.overflowed.set x.queue true } })

/-- The fields of an SL card, in the order and ranges of R34: nine or ten, the tenth, a density, left off or empty for none,
and an empty title for none. A card that passes every check is admitted (R34, R40): its record, with cancel pending NO,
joins the tail of its queue, and the reply is OK. Here no choice of the arbiter follows. The reply's number is a free value
where the console did not write it in plain decimal (log 1). -/
def Obligations.SlipAdmitted : Prop :=
  (∀ (fields : List Text) (x : SlipFields), slipFields fields = some x ↔
    ∃ f1 f2 f3 f4 f5 f6 f7 f8 f9 f10,
      (fields = [f1, f2, f3, f4, f5, f6, f7, f8, f9, f10]
        ∨ fields = [f1, f2, f3, f4, f5, f6, f7, f8, f9] ∧ f10 = [])
      ∧ Spells f1 x.number ∧ 1 ≤ x.number ∧ x.number ≤ 65535
      ∧ x.code = f2 ∧ f2.length = 4 ∧ (∀ c ∈ f2, (65 ≤ c.toNat ∧ c.toNat ≤ 90) ∨ (48 ≤ c.toNat ∧ c.toNat ≤ 57))
      ∧ Spells f3 x.queue.val ∧ x.catalog = f4 ∧ 1 ≤ f4.length ∧ f4.length ≤ 12
      ∧ x.title = (if f5 = [] then none else some f5) ∧ f5.length ≤ 40
      ∧ Spells f6 x.copies ∧ 1 ≤ x.copies ∧ x.copies ≤ 9
      ∧ Spells f7 x.stock.val ∧ Spells f8 x.pattern.val ∧ Spells f9 x.format.val
      ∧ (f10 = [] → x.density = none) ∧ (f10 ≠ [] → ∃ d : Nat, x.density = some d ∧ Spells f10 d ∧ d ≤ 400))
  ∧ ∀ (s : State) (fields : List Text) (x : SlipFields) (i : Fin 64), s.line.tx.length < 16 → undisturbed s = true →
    slipFields fields = some x → (s.tables.stock[x.stock]).base ≠ 0 → x.number ∉ slipNumbers s →
    (s.money.accounts[i]).state = .opened → (s.money.accounts[i]).code = some x.code →
    (∀ j : Fin 64, j < i → ¬ ((s.money.accounts[j]).state = .opened ∧ (s.money.accounts[j]).code = some x.code)) →
    (s.store.rings[x.queue]).slips.length < (s.store.table[x.queue]).capacity →
    let c : Slip :=
      { number := x.number, account := i, queue := x.queue, catalog := x.catalog, title := x.title, copies := x.copies,
        stock := x.stock, pattern := x.pattern, format := x.format, density := x.density, cancelPending := false }
    exec (.sl fields) s =
      .next (sends (okCard (txt "SL") [natKey (fields.getD 0 []) x.number]) { s with
        store := { s.store with
          rings := s.store.rings.set x.queue { s.store.rings[x.queue] with slips := (s.store.rings[x.queue]).slips ++ [c] } } })

/-- A CN card that names a slip in the store takes it from its queue, the slips behind it closing up, or the head slot
moving on when it was the head; the completion list gets CANCELLED with 0 and 0 (R52, R55). Here no choice of the arbiter
follows. With a report delay of 0 the reply stands before the EV card of the same event (the model's choice, log 10). The
reply's number is a free value where the console did not write it in plain decimal (log 1). -/
def Obligations.CancelInStore : Prop :=
  ∀ (s : State) (fields : List Text) (k : Fin 8) (before after : List Slip) (c : Slip), s.line.tx.length < 16 →
    undisturbed s = true → NumbersLaw s → oneField (natField 1 65535) fields = some c.number →
    (s.store.rings[k]).slips = before ++ c :: after →
    exec (.cn fields) s = .next { s with
      line := raised s.stand (endedFlags s.store.ended)
        (lineSends (okCard (txt "CN") [natKey (fields.getD 0 []) c.number]) s.line)
      store := { s.store with
        ended := joinEnded s.store.ended { slip := c.number, ending := .cancelled, made := 0, incomplete := 0 }
        rings := s.store.rings.set k
          { slips := before ++ after
            head := if before = [] then nextPlace s.store.table k (s.store.rings[k]).head else (s.store.rings[k]).head } } }

/-- A CN card that names the current slip (R53, R54, R108, R109, R114). Inside a set, cancel pending becomes YES.
Outside one, here with the lamp OFF and no head for the arbiter to choose, the slip ends CANCELLED with its own
counts, a waiting PF card is withdrawn, and the sequencer is in REMOVAL or IDLE as the gate asks. A number that is
nowhere is refused UNKNOWN, a field that is no slip number FIELD. With a report delay of 0 the reply stands before the
EV card of the same event (the model's choice, log 10). The reply's number is a free value where the console did not write
it in plain decimal (log 1). -/
def Obligations.CancelCurrentOrUnknown : Prop :=
  ∀ (s : State) (fields : List Text), s.line.tx.length < 16 →
    (oneField (natField 1 65535) fields = none →
      exec (.cn fields) s = .next (sends (noCard (txt "CN") [fields.getD 0 []] .field) s))
    ∧ ∀ n, oneField (natField 1 65535) fields = some n →
      let ok := okCard (txt "CN") [natKey (fields.getD 0 []) n]
      (n ∉ slipNumbers s → exec (.cn fields) s = .next (sends (noCard (txt "CN") [fields.getD 0 []] .unknown) s))
      ∧ ∀ x : Current, s.seq.slip = some x → x.slip.number = n → NumbersLaw s →
        (s.seq.set.isSome = true → s.seq.state ≠ .idle →
          exec (.cn fields) s = .next (sends ok { s with
            seq := { s.seq with slip := some { x with slip := { x.slip with cancelPending := true } } } }))
        ∧ (s.seq.set = none → s.lamp.state = .off →
            (s.inputs.gate.debounced = false → ∀ k : Fin 8, testedHead s k = none) →
          exec (.cn fields) s = .next { s with
            line := raised s.stand (endedFlags s.store.ended ++ if s.inputs.gate.debounced then [.remove] else [])
              (lineSends ok { s.line with pfWaiting := none })
            store := { s.store with
              ended := joinEnded s.store.ended { slip := n, ending := .cancelled, made := x.made, incomplete := x.incomplete } }
            seq := { state := if s.inputs.gate.debounced then .removal else .idle, wait := none, slip := none, set := none } })

/-- A TB QUEUE write (R41, R42, R45). A change of the paused mark alone is taken in every mode and moves no slip; a
change of capacity is taken in SETUP alone, if the capacities then sum to at most 96: the slips of that queue and of
every higher one are flushed in order into the completion list, and those queues are laid out anew. With a report
delay of 0 the reply stands before the EV card of the same event (the model's choice, log 10). The index in the reply is a
free value where the console did not write it in plain decimal (log 1). -/
def Obligations.QueueTableWritten : Prop :=
  ∀ (s : State) (k : Fin 8) (index : Text) (fields : List Text), s.line.tx.length < 16 → s.store.ended.length ≤ 32 →
    finField 8 index = some k →
    let ok := okCard (txt "TB") [txt "QUEUE", natKey index k.val]
    let no (r : Reason) := Host.Outcome.next (sends (noCard (txt "TB") [txt "QUEUE", index] r) s)
    (queueFields s.store.table[k] fields = none → exec (.tbQueue (index :: fields)) s = no .field)
    ∧ ∀ x, queueFields s.store.table[k] fields = some x →
      let table := s.store.table.set k x
      let sum := ((List.finRange 8).map fun j => (table[j]).capacity).sum
      (x.capacity = (s.store.table[k]).capacity → sum ≤ 96 → undisturbed s = true →
        exec (.tbQueue (index :: fields)) s = .next (sends ok { s with store := { s.store with table } }))
      ∧ (x.capacity ≠ (s.store.table[k]).capacity → s.modes.current ≠ .setup →
        exec (.tbQueue (index :: fields)) s = no .mode)
      ∧ ((x.capacity = (s.store.table[k]).capacity ∨ s.modes.current = .setup) → 96 < sum →
        exec (.tbQueue (index :: fields)) s = no .room)
      ∧ (x.capacity ≠ (s.store.table[k]).capacity → s.modes.current = .setup → sum ≤ 96 →
        let gone := ((List.finRange 8).filter (k ≤ ·)).flatMap fun j => (s.store.rings[j]).slips
        let all := s.store.ended ++ gone.map fun c => { slip := c.number, ending := .flushed, made := 0, incomplete := 0 }
        exec (.tbQueue (index :: fields)) s = .next { s with
          line := raised s.stand
            ((if gone = [] then [] else [.ended]) ++ if gone ≠ [] ∧ 32 < all.length then [.endedLost] else [])
            (lineSends ok s.line)
          store := { s.store with
            table
            ended := all.drop (all.length - 32)
            rings := Vector.ofFn fun j : Fin 8 =>
              if k ≤ j then { slips := [], head := regionBase table j } else s.store.rings[j] } })

/-- A run of the arbiter, here the one an accepted TB RATE write ends with, the sequencer IDLE in RUN or PROOF (R47 to
R51, R93). It hands over the head of the first queue whose head is eligible; finding none, it sets ROLL if a head
failed the roll test and ACCOUNT if a head that passed it failed the ceiling test. The factor of a slip without a
density is the model's until its first metering, and nothing reads it (log 14). With a report delay of 0 the reply
stands before the EV card of the same event (the model's choice, log 10). The index in the reply is a free value where the
console did not write it in plain decimal (log 1). -/
def Obligations.ArbiterRuns : Prop :=
  ∀ (s : State) (i : Fin 4) (index : Text) (fields : List Text) (x : RateEntry), s.line.tx.length < 16 →
    s.seq.state = .idle → (s.modes.current = .run ∨ s.modes.current = .proof) →
    finField 4 index = some i → rateFields s.money.rates[i] fields = some x →
    let t : State := sends (okCard (txt "TB") [txt "RATE", natKey index i.val])
      { s with money := { s.money with rates := s.money.rates.set i x } }
    (∀ (k : Fin 8) (c : Slip), testedHead s k = some c → eligible t c = true →
      (∀ j, j < k → (testedHead s j).any (eligible t) = false) →
      exec (.tbRate (index :: fields)) s = .next { t with
        line := raised s.stand [if s.inputs.gate.debounced then .remove else .original] t.line
        store := { s.store with rings := s.store.rings.set k (withoutHead s.store.table k s.store.rings[k]) }
        seq := handed c s.inputs.gate.debounced })
    ∧ ((∀ k, (testedHead s k).any (eligible t) = false) →
      let roll := decide (∃ k, (testedHead s k).any fun d => !rollFits t d)
      let ceiling := decide (∃ k, (testedHead s k).any fun d => rollFits t d && !ceilingFits t d)
      exec (.tbRate (index :: fields)) s = .next { t with
        line := raised s.stand ((if roll then [.roll] else []) ++ if ceiling then [.account] else []) t.line })

/-! ### Light metering (spec/04) -/

/-- A CB card (R70, R118): refused FIELD with a field, MODE outside SETUP, STATE while a calibration is in flight, the
meter is busy or a slide is in the gate, BUSY while the lamp cools; accepted with the lamp OFF, it lights the lamp for the
calibration, for the METER warm-up. -/
def Obligations.CalibrationAsked : Prop :=
  ∀ s : State, s.line.tx.length < 16 →
    let no (r : Reason) := Host.Outcome.next (sends (noCard (txt "CB") [] r) s)
    (∀ fields, fields ≠ [] → exec (.cb fields) s = no .field)
    ∧ (s.modes.current ≠ .setup → exec (.cb []) s = no .mode)
    ∧ (s.modes.current = .setup →
        (s.meter.calibrating = true ∨ s.meter.phase ≠ .idle ∨ s.inputs.gate.debounced = true → exec (.cb []) s = no .state)
        ∧ (s.meter.calibrating = false → s.meter.phase = .idle → s.inputs.gate.debounced = false →
            (s.lamp.state = .cooling → exec (.cb []) s = no .busy)
            ∧ (s.lamp.state = .off → s.meter.entry.warmUp ≠ 0 →
                exec (.cb []) s = .next (sends (okCard (txt "CB") []) { s with
                  meter := { s.meter with calibrating := true }
                  lamp := { s.lamp with
                    state := .warming, user := some .calibration, lit := 0, warmUp := some (s.meter.entry.warmUp * 10 * Config.ms) } }))))

/-- A probe's pulse counts in its own phase alone (R59): the lamp probe's in REFERENCE, the gate probe's in GATE. The
pulse that wraps the counter is the end of the reference phase (R63), and the one that finds it at its top in GATE is a
gate overrun (R66): each is the command of that name. The R-th pulse ends the reference phase (R63, R65): the ticks
counted are stored as the last reference duration, and the gate phase begins with its counter 0 and the time base loaded
with the negative of it; in another phase the command changes nothing. That REFERENCE_PHASE_END takes effect whatever the
counter holds is the model's choice (log 15). -/
def Obligations.ProbePulseCounts : Prop :=
  (∀ (s : State) (p : Probe),
    let mine := (s.meter.phase = .reference ∧ p = .lamp) ∨ (s.meter.phase = .gate ∧ p = .gate)
    (¬ mine → exec (.probePulse p) s = .next s)
    ∧ (mine → s.meter.count < 16777215 →
        exec (.probePulse p) s = .next { s with meter := { s.meter with count := s.meter.count + 1 } })
    ∧ (mine → s.meter.count = 16777215 →
        exec (.probePulse p) s = exec (if p = .lamp then .referencePhaseEnd else .gateOverrun) s))
  ∧ ∀ s : State,
    (s.meter.phase ≠ .reference → exec .referencePhaseEnd s = .next s)
    ∧ (s.meter.phase = .reference → s.meter.timeBase ≠ 0 →
        exec .referencePhaseEnd s = .next { s with meter := { s.meter with
          count := 0, lastRef := s.meter.timeBase.natAbs, timeBase := - (s.meter.timeBase.natAbs : Int), phase := .gate } })

/-- The overruns of a calibration (R64, R66, R73), with nothing pending at CAL: the flag is set, the metering fails, the
lamp is extinguished for the proportional cool-down and the calibration is over, its value in the METER table unchanged. A
reference overrun lets the ticks still missing pass first (the model's choice, log 3); a gate overrun finds its counter at
its top (log 15). -/
def Obligations.CalibrationOverruns : Prop :=
  ∀ (s : State) (j : MeterJob), s.meter.job = some j → j.user = .calibration → s.lamp.state = .lit →
    s.lamp.user = some .calibration → s.modes.change ≠ .cal → undisturbed s = true →
    (s.meter.phase = .reference →
      let r := elapse (untilOverrun s) s
      0 < cooling r →
      exec .referenceOverrun s = .next { r with
        line := raised s.stand [.lamp] r.line
        lamp := dark (cooling r) r.lamp
        meter := { meterFree r.meter with calibrating := false }
        seq := { r.seq with slip := r.seq.slip.map unlit } })
    ∧ (s.meter.phase = .gate → 0 < cooling s →
      exec .gateOverrun s = .next { s with
        line := raised s.stand [.meter] s.line
        lamp := dark (cooling s) s.lamp
        meter := { meterFree s.meter with calibrating := false, count := 16777215 }
        seq := { s.seq with slip := s.seq.slip.map unlit } })

/-- The overruns of a slip's metering outside a set (R64, R66, R68, R28): the flag is set, the lamp is extinguished, HOLD
is requested and taken at once, and the sequencer parks holding its slip. The ticks still missing pass first, and a gate
overrun finds its counter at its top (the model's choices, log 3 and log 15). With a report delay of 0 the two flags stand
on one EV card (the model's choice, log 10). -/
def Obligations.SlipMeteringFails : Prop :=
  ∀ (s : State) (j : MeterJob) (x : Current), s.meter.job = some j → j.user = .sequencer → s.meter.calibrating = false →
    s.lamp.state = .lit → s.lamp.user = some .sequencer → s.seq.state = .metering → s.seq.set = none → s.seq.slip = some x →
    s.lamp.waiting = none → s.shutter.opened = false → (s.modes.current = .run ∨ s.modes.current = .proof) →
    (s.labels.feedHold = true → mountingSlot s.film = none) →
    let parked (f : Flag) (r : State) : State := { r with
      line := raised s.stand [f, .mode] r.line
      lamp := dark (cooling r) r.lamp
      meter := meterFree r.meter
      modes := { requested := .hold, current := .hold, change := .none }
      labels := { r.labels with feedHold := false }
      seq := { state := .setReady, wait := none, slip := some (unlit x), set := none } }
    (s.meter.phase = .reference →
      let r := elapse (untilOverrun s) s
      0 < cooling r → exec .referenceOverrun s = .next (parked .lamp r))
    ∧ (s.meter.phase = .gate → 0 < cooling s →
      exec .gateOverrun s = .next (parked .meter { s with meter := { s.meter with count := 16777215 } }))

/-- The gate phase of a calibration ends with a result (R65, R67, R72), with nothing pending at CAL: the new calibration
is the nearest whole number to 16,384 × G / R, a half upward; in range it is stored and CAL set, otherwise METER is set;
the lamp is extinguished for the proportional cool-down. The ticks still missing pass first (the model's choice, log 3). -/
def Obligations.CalibrationStores : Prop :=
  ∀ (s : State) (j : MeterJob), s.meter.phase = .gate → s.meter.job = some j → j.user = .calibration → s.lamp.state = .lit →
    s.lamp.user = some .calibration → s.modes.change ≠ .cal → undisturbed s = true →
    let r := elapse (untilGateEnd s) s
    let c := (2 * 16384 * s.meter.count + j.refCount) / (2 * j.refCount)
    let stored := decide (8192 ≤ c ∧ c ≤ 65535)
    0 < cooling r →
      (4096 ≤ j.refCount → 2 * j.refCount * c ≤ 2 * 16384 * s.meter.count + j.refCount
        ∧ 2 * 16384 * s.meter.count + j.refCount < 2 * j.refCount * (c + 1))
      ∧ exec .gatePhaseEnd s = .next { r with
        line := raised s.stand [if stored then .cal else .meter] r.line
        lamp := dark (cooling r) r.lamp
        meter := { meterFree r.meter with
          timeBase := 0, calibrating := false, entry := if stored then { s.meter.entry with cal := c } else s.meter.entry }
        seq := { r.seq with slip := r.seq.slip.map unlit } }

/-- The gate phase of a slip's metering ends with a result (R65, R67, R76, R77, R95, R97, R98): the slip's factor is the
quotient in range, or an end of the range with its mark; the set start is then evaluated, here in RUN with no roll on the
camera, or after a door opening, with a camera roll of any stock (R106; its reach in LOADING: log 27), so that the sequencer
waits with cause ROLL and the lamp is extinguished; that with no roll the wait shows ROLL, and not LAMP after this
extinguishing of its own, is the model's choice (log 11). The ticks still missing pass first (the model's choice, log 3). -/
def Obligations.MeteringGivesFactor : Prop :=
  ∀ (s : State) (j : MeterJob) (x : Current), s.meter.phase = .gate → s.meter.job = some j → j.user = .sequencer →
    s.lamp.state = .lit → s.lamp.user = some .sequencer → s.seq.set = none → s.seq.slip = some x → s.modes.current = .run →
    (cameraSlot s.film = none ∨ awaitsRoll s.film = true) →
    let r := elapse (untilGateEnd s) s
    let g := s.meter.count
    let q := (2 * j.refCount * j.cal + g * 64) / (2 * g * 64)
    let factor : Factor :=
      if g = 0 ∨ 16777215 < q then { f256 := 16777215, mark := some .over }
      else if q = 0 then { f256 := 1, mark := some .under }
      else { f256 := q, mark := none }
    0 < cooling r →
      exec .gatePhaseEnd s = .next { r with
        lamp := dark (cooling r) r.lamp
        meter := { meterFree r.meter with timeBase := 0 }
        seq := { state := .setReady, wait := some .roll, set := none, slip := some (unlit { x with factor }) } }

/-! ### Exposure arithmetic (spec/05) -/

/-- The density table (R78): M[k] is 65,536 × 10^(k/100) rounded, said without roots by the hundredth power; the entries
rise, two neighbours by more than 2 per cent; and QY TABLE DENSITY answers M[k], refusing FIELD what is no index 0 to 99. The
index in the answer is a free value where the console did not write it in plain decimal (log 1). -/
def Obligations.DensityTable : Prop :=
  (∀ k : Fin 100, (2 * densityEntry k - 1) ^ 100 ≤ (2 * 65536) ^ 100 * 10 ^ k.val
      ∧ (2 * 65536) ^ 100 * 10 ^ k.val < (2 * densityEntry k + 1) ^ 100)
  ∧ (∀ k : Fin 99, densityEntry k * 102 < densityEntry (k + 1) * 100)
  ∧ ∀ (s : State) (args : List Text), s.line.tx.length < 16 →
    (∀ k : Fin 100, oneField (finField 100) args = some k →
      exec (.qyTableDensity args) s =
        .next (sends (anCard (txt "QY") [txt "TABLE", txt "DENSITY", natKey (args.getD 0 []) k.val] [dec (densityEntry k)]) s))
    ∧ (oneField (finField 100) args = none →
      exec (.qyTableDensity args) s =
        .next (sends (noCard (txt "QY") [txt "TABLE", txt "DENSITY", args.getD 0 []] .field) s))

/-- The bracket factor table (R81): B(s) is 1,024 × 2^(s/3) rounded, said without roots by the cube; the thirteen values;
QY TABLE BRACKET answers B(s) and refuses FIELD what is no step −6 to +6; a TB card that names BRACKET is refused FIELD. The
step in the answer is a free value where the console did not write it as the part does (log 1). -/
def Obligations.BracketTable : Prop :=
  (∀ k : Fin 13,
    let b := bracketFactor ((k.val : Int) - 6)
    b = [256, 323, 406, 512, 645, 813, 1024, 1290, 1625, 2048, 2580, 3251, 4096].getD k.val 0
      ∧ (2 * b - 1) ^ 3 * 2 ^ 6 ≤ (2 * 1024) ^ 3 * 2 ^ k.val ∧ (2 * 1024) ^ 3 * 2 ^ k.val < (2 * b + 1) ^ 3 * 2 ^ 6)
  ∧ (∀ (s : State) (args : List Text), s.line.tx.length < 16 →
    (∀ v : Int, oneField (intField (-6) 6) args = some v →
      exec (.qyTableBracket args) s =
        .next (sends (anCard (txt "QY") [txt "TABLE", txt "BRACKET", numberKey (args.getD 0 []) v (stepText v)]
          [dec (bracketFactor v)]) s))
    ∧ (oneField (intField (-6) 6) args = none →
      exec (.qyTableBracket args) s =
        .next (sends (noCard (txt "QY") [txt "TABLE", txt "BRACKET", args.getD 0 []] .field) s)))
  ∧ ∀ (s : State) (rest : List RxChar) (fields : List Text), s.line.rx = ⟨'>', false⟩ :: rest → s.line.tx.length < 16 →
    s.line.asm.state = .check → s.line.asm.failed = false → s.line.asm.count < 160 → s.line.asm.kind = txt "TB" →
    s.line.asm.fields = txt "BRACKET" :: fields → s.line.asm.check = checkText s.line.asm.kind s.line.asm.fields →
    exec .assemblerTakeCharacter s =
      .next (sends (noCard (txt "TB") [txt "BRACKET", fields.getD 0 []] .field) (taken rest .hunting s))

/-- The factor of a density and its inverse (R79, R80): F256(d) is M[k] × 10^q / 256 rounded, it rises strictly over 0 to
480, and the proof density of a factor is the largest d in 0 to 480 whose F256(d) does not exceed it, 0 if there is none;
a factor derived from a density gives that density back. -/
def Obligations.ProofDensity : Prop :=
  (∀ d, d ≤ 480 →
      512 * factorOfDensity d ≤ 2 * densityEntry (d % 100) * 10 ^ (d / 100) + 256
        ∧ 2 * densityEntry (d % 100) * 10 ^ (d / 100) + 256 < 512 * (factorOfDensity d + 1))
  ∧ (∀ a b, a < b → b ≤ 480 → factorOfDensity a < factorOfDensity b)
  ∧ (∀ f, f < 256 → proofDensity f = 0)
  ∧ (∀ f, 256 ≤ f → proofDensity f ≤ 480 ∧ factorOfDensity (proofDensity f) ≤ f
      ∧ ∀ d, d ≤ 480 → factorOfDensity d ≤ f → d ≤ proofDensity f)
  ∧ (∀ d, d ≤ 480 → proofDensity (factorOfDensity d) = d)

/-- The factor of a metering is the nearest quotient in range, a half upward, or an end of the range with its mark (R76,
R77). -/
def Obligations.FactorFromMetering : Prop :=
  ∀ g r c : Nat, 4096 ≤ r → r ≤ 4194304 → 8192 ≤ c → c ≤ 65535 → g ≤ 16777215 →
    let f := factorFromCounts g r c
    1 ≤ f.f256 ∧ f.f256 ≤ 16777215
    ∧ (g = 0 → f = { f256 := 16777215, mark := some .over })
    ∧ (f.mark = none → 128 * g * f.f256 ≤ 2 * r * c + 64 * g ∧ 2 * r * c + 64 * g < 128 * g * (f.f256 + 1))
    ∧ (f.mark = some .under ↔ r * c < 32 * g)
    ∧ (f.mark = some .under → f.f256 = 1)
    ∧ (f.mark = some .over ↔ g = 0 ∨ 128 * g * 16777216 ≤ 2 * r * c + 64 * g)
    ∧ (f.mark = some .over → f.f256 = 16777215)

/-- R88: the stretch acts beyond the knee alone, is the nearest whole number of the part beyond it times slope / 256, and
is continuous at the knee; a slope of 256 changes nothing. -/
def Obligations.StretchedTime : Prop :=
  ∀ knee slope t1 : Nat,
    (1 ≤ knee → knee < t1 → stretchedTime knee slope t1 = knee + (2 * (t1 - knee) * slope + 256) / 512)
    ∧ (knee = 0 ∨ t1 ≤ knee → stretchedTime knee slope t1 = t1)
    ∧ stretchedTime knee 256 t1 = t1
    ∧ (∀ t, t1 = t + 1 → 256 ≤ slope → slope ≤ 1024 →
        stretchedTime knee slope t ≤ stretchedTime knee slope t1 ∧ stretchedTime knee slope t1 ≤ stretchedTime knee slope t + 5)

/-- A step's time and marks. The linear time is that of R87: 0 for a base time of 0, the base time at a clear gate and step
0, its product below 2^52; the stretched time is that of R88. The step time lies in 1 ms to 60 s (R89): it is the stretched
time where that lies there, and otherwise the end of the range, marked; and the factor's mark goes with it (R90). -/
def Obligations.StepTimeAndMarks : Prop :=
  ∀ (stock : StockEntry) (f : Factor) (v : Int),
    let t1 := (2 * stock.base * f.f256 * bracketFactor v + 262144) / 524288
    let t2 := if 1 ≤ stock.knee ∧ stock.knee < t1 then
      stock.knee + (2 * (t1 - stock.knee) * stock.slope + 256) / 512 else t1
    let a := stepTime stock f v
    10 ≤ a.time ∧ a.time ≤ 600000
    ∧ a.time = max 10 (min t2 600000)
    ∧ a.marks = { overdense := decide (f.mark = some .over), underdense := decide (f.mark = some .under),
                  clampLow := decide (t2 < 10), clampHigh := decide (600000 < t2), clampGuard := false }
    ∧ (stock.base = 0 → t1 = 0)
    ∧ (f.f256 = 256 → v = 0 → t1 = stock.base)
    ∧ (stock.base ≤ 65535 → f.f256 ≤ 16777215 → -6 ≤ v → v ≤ 6 → stock.base * f.f256 * bracketFactor v < 2 ^ 52)

/-! ### The copy sequencer (spec/06) -/

/-- A metering whose set start passes every check begins the set and its first exposure in one event (R95, R97 to R102,
R126): the set context is captured, the EXPOSING record made at the camera roll's next frame with the set head data, and
the shutter opened for the step's time; CLAMP is set if the step bears one of the four marks (R91). The ticks still
missing in the gate phase pass first (the model's choice, log 3). -/
def Obligations.SetStarts : Prop :=
  ∀ (s : State) (j : MeterJob) (x : Current) (i : Fin 4) (roll : Roll) (v : Int) (vs : List Int),
    s.meter.phase = .gate → s.meter.job = some j → j.user = .sequencer → s.lamp.state = .lit → s.seq.set = none →
    s.seq.slip = some x → s.modes.current = .run → s.film.state = .ready → cameraSlot s.film = some i →
    s.film.rolls[i] = some roll → roll.stock = x.slip.stock → s.tables.pattern[x.slip.pattern] = v :: vs →
    1 ≤ roll.next → roll.next + (v :: vs).length ≤ roll.capacity + 1 → s.records.length + (v :: vs).length ≤ 2048 →
    ceilingFits s x.slip = true → (∀ r ∈ s.records, ¬ (r.slot = i ∧ r.frame = roll.next)) →
    s.shutter.opened = false → s.inputs.door.debounced = false → s.inputs.gate.debounced = true →
    let r := elapse (untilGateEnd s) s
    let factor := factorFromCounts s.meter.count j.refCount j.cal
    let stock := s.tables.stock[x.slip.stock]
    let rate := s.money.rates[(s.money.accounts[x.slip.account]).rateClass]
    let a := stepTime stock factor v
    a.time ≤ 10 * (guardLimitMs s - r.lamp.lit / Config.ms) →
    let record : Record :=
      { slot := i, frame := roll.next, kind := .exposing, slip := x.slip.number, account := x.slip.account, copy := x.copy,
        copies := x.slip.copies, head := roll.next, step := 1, bracket := v, time := a.time, marks := a.marks,
        fee := rate.frameFee, decision := .undecided, label := .none, charge := .none
        data := some { status := .opened, catalog := x.slip.catalog, title := x.slip.title, format := x.slip.format,
                       tag := stock.tag, copyFee := rate.copyFee } }
    exec .gatePhaseEnd s = .next { r with
      line := raised s.stand
        (if a.marks.overdense || a.marks.underdense || a.marks.clampLow || a.marks.clampHigh then [.clamp] else []) r.line
      meter := { meterFree r.meter with timeBase := 0 }
      seq :=
        { state := .exposing, wait := none
          slip := some { x with factor, metered := true, fresh := false, made := x.made + 1 }
          set := some { stock, pattern := v :: vs, times := (v :: vs).map (stepTime stock factor), frameFee := rate.frameFee,
                        copyFee := rate.copyFee, step := 1, head := some roll.next, again := false } }
      records := insertRecord record s.records
      shutter := { opened := true, timer := some (a.time * Config.tenth) } }

/-- The exposure timer expires (R103, R127, R141, R156, R193): the shutter closes, the frame's EXPOSING record becomes
EXPOSED with its fee provisional on its account, and the film advances. At the roll's last frame, or with the roll end
active, the advance is not run (R141, steps 1 and 2): ROLL is set, the transport is SUSPENDED, and the set ends, COMPLETE
after its last step and INCOMPLETE after another (R105). After the last copy, or with a cancel pending, the slip ends, here
with a slide in the gate; otherwise it goes on in RUN to wait on ROLL, the lamp dark (R97, R98, R107): the cause shown after
that extinguishing is ROLL by the model's choice (log 11). With a report delay of 0 the flags of the event stand on one EV
card at its end (log 10). The time the timer has left passes first (the model's choice, log 3). -/
def Obligations.ExposureEnds : Prop :=
  ∀ (s : State) (n : Nat) (x : SetCtx) (i : Fin 4) (roll : Roll) (r : Record),
    s.shutter.timer = some n → s.shutter.opened = true → s.seq.state = .exposing → s.seq.set = some x →
    s.film.state = .ready → cameraSlot s.film = some i → s.film.rolls[i] = some roll →
    recordAt i roll.next s.records = some r → r.kind = .exposing →
    let e := elapse n s
    let a := s.money.accounts[r.account]
    let exposed : State := { e with
      shutter := { opened := false, timer := none }
      records := s.records.map fun y =>
        if y.slot = i ∧ y.frame = roll.next then { y with kind := .exposed, charge := .provisional } else y
      money := { s.money with accounts := s.money.accounts.set r.account { a with provisional := a.provisional + r.fee } } }
    (roll.next < roll.capacity → s.inputs.rollEnd.debounced = false →
      exec .exposureTimerExpiry s = .next { exposed with
        film := { e.film with
          state := .advancing
          flight := some { kind := .frame, edge := s.stand.markEdge, left := s.stand.advanceTimeout * Config.ms } }
        seq := { s.seq with state := .advancing, wait := none, set := some { x with again := false } } })
    ∧ ∀ (c : Current) (h : Nat), (roll.capacity ≤ roll.next ∨ s.inputs.rollEnd.debounced = true) → s.seq.slip = some c →
      x.head = some h → s.modes.current = .run → s.modes.change ≠ .boundary → s.lamp.state = .lit →
      s.lamp.user = some .sequencer → s.inputs.gate.debounced = true → 0 < cooling e →
      let complete := decide (x.step = x.pattern.length)
      let c' := setOver complete c
      let stopped : State := darkened { exposed with
        records := headMarked i h (if complete then .complete else .incomplete) exposed.records
        film :=
          if roll.capacity ≤ roll.next then
            withRoll i (some { roll with next := roll.capacity + 1 }) { e.film with state := .suspFrames }
          else { e.film with state := .suspSensor .frame } }
      (c.slip.cancelPending = true ∨ c.slip.copies ≤ c.copy →
        exec .exposureTimerExpiry s =
          .next (slipOut [.roll] (if c.slip.cancelPending then .cancelled else lastEnding c') c' stopped))
      ∧ (c.slip.cancelPending = false → c.copy < c.slip.copies → roll.stock = c.slip.stock →
        exec .exposureTimerExpiry s = .next { stopped with
          line := raised s.stand [.roll] e.line
          seq := { state := .setReady, wait := some .roll, set := none, slip := some (unlit { c' with copy := c.copy + 1 }) } })

/-- The advance in flight ends with success (R142, R145), or as a jam when its timer expires (R143). With none in flight
nothing changes; ADVANCE_END ends the advance whatever its edge and touches no input (the model's choice, log 16). An
advance that nothing awaits is a change of transport state alone. One awaited after the last step ends the set COMPLETE,
and after the last copy the slip DONE, or SHORT with a set incomplete, here with the lamp lit for it and a slide in the
gate (R105, R107, R108, R157). After another step the step rises by one, or is made again, and begins (R100, R101): with
the frame map full MAP is set, the set ends INCOMPLETE and, after the last copy, the slip SHORT; with the lamp COOLING it
waits on LAMP; with the lamp OFF it relights; a time within the allowance is exposed, and one beyond it makes the lamp go
dark and the step wait on LAMP. A relight's metering takes the times of the steps not yet exposed anew; its step is
exposed, clamped to the guard if it exceeds an allowance of at least 20, and under 20 the set ends INCOMPLETE and the slip
GUARD_SHORT. A jam puts the set into a wait on TRANSPORT (R105), the lamp going dark if it is lit for it (R98). The time an
advance timer or a gate phase has left passes first (the model's choice, log 3), and with a report delay of 0 the EV card
stands at the event's end (log 10). -/
def Obligations.AdvanceEnds : Prop :=
  ∀ s : State,
    let ended (i : Fin 4) (h : Nat) (status : SetStatus) : List Record := s.records.map fun r =>
      if r.slot = i ∧ r.frame = h then { r with data := r.data.map fun d => { d with status } } else r
    let slipEnds (u : State) (fs : List Flag) (c : Current) (ending : Ending) (incomplete : Nat) (rs : List Record) : State :=
      { u with
        line := raised s.stand (fs ++ endedFlags s.store.ended ++ [.remove]) u.line
        lamp := dark (cooling u) u.lamp
        meter := meterFree u.meter
        records := rs
        store := { s.store with ended := joinEnded s.store.ended { slip := c.slip.number, ending, made := c.made, incomplete } }
        seq := { state := .removal, wait := none, slip := none, set := none } }
    let exposes (u : State) (i : Fin 4) (frame h : Nat) (c : Current) (y : SetCtx) (v : StepTime) : State :=
      { u with
        line := raised s.stand (clampFlags v.marks) u.line
        records := insertRecord (laterRecord i frame h c y v) s.records
        shutter := { opened := true, timer := some (v.time * Config.tenth) }
        seq := { state := .exposing, wait := none, slip := some { c with fresh := false }, set := some y } }
    (s.film.flight = none → exec .advanceEnd s = .next s ∧ exec .advanceTimerExpiry s = .next s)
    ∧ (∀ a : Advance, s.film.flight = some a →
      let e := elapse a.left s
      (a.kind = .leader → undisturbed s = true →
        exec .advanceEnd s = .next { s with film := { s.film with state := .ready, flight := none } })
      ∧ (∀ (i : Fin 4) (roll : Roll), cameraSlot s.film = some i → s.film.rolls[i] = some roll → a.kind = .frame →
          let t : State := { s with film := { s.film with
            state := .ready, flight := none, rolls := s.film.rolls.set i (some { roll with next := roll.next + 1 }) } }
          (s.seq.state ≠ .advancing → undisturbed s = true → exec .advanceEnd s = .next t)
          ∧ (∀ (x : SetCtx) (h : Nat) (c : Current), s.seq.state = .advancing → s.seq.set = some x → s.seq.slip = some c →
              x.head = some h → s.modes.change ≠ .boundary →
              (x.step = x.pattern.length → x.again = false → c.slip.cancelPending = false → c.slip.copies ≤ c.copy →
                s.lamp.state = .lit → s.lamp.user = some .sequencer → 0 < cooling s → s.inputs.gate.debounced = true →
                exec .advanceEnd s = .next
                  (slipEnds t [] c (if c.incomplete = 0 then .done else .short) c.incomplete (ended i h .complete)))
              ∧ (¬ (x.step = x.pattern.length ∧ x.again = false) → roll.next < roll.capacity →
                let y : SetCtx := { x with step := if x.again then x.step else x.step + 1 }
                let room := 10 * (guardLimitMs s - s.lamp.lit / Config.ms)
                (2048 ≤ s.records.length → c.slip.cancelPending = false → c.slip.copies ≤ c.copy → s.lamp.state = .lit →
                  s.lamp.user = some .sequencer → 0 < cooling s → s.inputs.gate.debounced = true →
                  exec .advanceEnd s = .next (slipEnds t [.map] c .short (c.incomplete + 1) (ended i h .incomplete)))
                ∧ (s.records.length < 2048 →
                  (s.lamp.state = .cooling → s.lamp.user = none →
                    exec .advanceEnd s = .next { t with
                      seq := { state := .setReady, wait := some .lamp, slip := some c, set := some y } })
                  ∧ (s.lamp.state = .off → s.meter.job = none → s.meter.entry.warmUp ≠ 0 →
                    exec .advanceEnd s = .next { t with
                      lamp := { s.lamp with
                        state := .warming, user := some .sequencer, lit := 0, warmUp := some (s.meter.entry.warmUp * 10 * Config.ms) }
                      seq := { state := .warming, wait := none, slip := some c, set := some y } })
                  ∧ (∀ v, s.lamp.state = .lit → c.metered = true → y.times[y.step - 1]? = some v →
                    (room < v.time → c.fresh = false → s.lamp.user = some .sequencer → 0 < cooling s →
                      exec .advanceEnd s = .next { t with
                        lamp := dark (cooling s) s.lamp, meter := meterFree s.meter
                        seq := { state := .setReady, wait := some .lamp, slip := some (unlit c), set := some y } })
                    ∧ (v.time ≤ room → s.modes.current = .run → s.shutter.opened = false → s.inputs.door.debounced = false →
                      s.inputs.gate.debounced = true → (∀ r ∈ s.records, ¬ (r.slot = i ∧ r.frame = roll.next + 1)) →
                      exec .advanceEnd s = .next (exposes t i (roll.next + 1) h c y v)))))))
      ∧ ((a.kind = .leader ∨ s.seq.state ≠ .advancing) → undisturbed s = true →
          exec .advanceTimerExpiry s = .next { e with
            film := { e.film with state := .faultJam a.kind, flight := none }, line := raised s.stand [.jam] e.line })
      ∧ (a.kind = .frame → s.seq.state = .advancing → s.seq.set.isSome = true → s.modes.change ≠ .boundary →
          let u : State := { e with
            film := { e.film with state := .faultJam .frame, flight := none }
            line := raised s.stand [.jam] e.line
            seq := { s.seq with state := .setReady, wait := some .transport } }
          (s.lamp.user ≠ some .sequencer → exec .advanceTimerExpiry s = .next u)
          ∧ (s.lamp.user = some .sequencer → s.lamp.state = .lit → 0 < cooling e →
            exec .advanceTimerExpiry s = .next { u with
              lamp := dark (cooling e) e.lamp, meter := meterFree e.meter
              seq := { u.seq with slip := s.seq.slip.map unlit } })))
    ∧ ∀ (j : MeterJob) (i : Fin 4) (roll : Roll) (x : SetCtx) (h : Nat) (c : Current) (v : StepTime),
      s.meter.phase = .gate → s.meter.job = some j → j.user = .sequencer → s.lamp.state = .lit →
      s.lamp.user = some .sequencer → s.seq.set = some x → x.head = some h → s.seq.slip = some c →
      cameraSlot s.film = some i → s.film.rolls[i] = some roll → s.inputs.gate.debounced = true → s.modes.change ≠ .boundary →
      let r := elapse (untilGateEnd s) s
      let f := factorFromCounts s.meter.count j.refCount j.cal
      let u : State := { r with meter := { meterFree r.meter with timeBase := 0 } }
      let y : SetCtx := { x with times := x.times.take (x.step - 1) ++ (x.pattern.map (stepTime x.stock f)).drop (x.step - 1) }
      let c' : Current := { c with factor := f, metered := true, fresh := true }
      let room := 10 * (guardLimitMs s - r.lamp.lit / Config.ms)
      y.times[x.step - 1]? = some v →
      (s.film.state = .ready → 1 ≤ roll.next → roll.next ≤ roll.capacity → s.records.length < 2048 →
        (∀ r ∈ s.records, ¬ (r.slot = i ∧ r.frame = roll.next)) → s.modes.current = .run → s.shutter.opened = false →
        s.inputs.door.debounced = false →
        (v.time ≤ room → exec .gatePhaseEnd s = .next (exposes u i roll.next h c' y v))
        ∧ (room < v.time → 20 ≤ room →
          exec .gatePhaseEnd s = .next (exposes u i roll.next h c' y
            { time := room - 10, marks := { v.marks with clampGuard := true } })))
      ∧ (room < v.time → room < 20 → c.slip.cancelPending = false → 0 < cooling r →
        exec .gatePhaseEnd s = .next (slipEnds u [] c .guardShort (c.incomplete + 1) (ended i h .incomplete)))

/-- A metering of a slip in PROOF ends in its PF card and the slip's end, as one event (R95, R112 to R114, R121): the
card carries the slip's number, the proof density, the factor, and each step's bracket step, time and marks, from the
stock entry and the pattern as they stand; here with a place free and a slide in the gate. The ticks still missing in
the gate phase pass first (the model's choice, log 3); with a report delay of 0 CLAMP, ENDED and REMOVE stand on one
EV card, after the PF card (the model's choice, log 10). -/
def Obligations.ProofMade : Prop :=
  ∀ (s : State) (j : MeterJob) (x : Current), s.meter.phase = .gate → s.meter.job = some j → j.user = .sequencer →
    s.lamp.state = .lit → s.lamp.user = some .sequencer → s.lamp.waiting = none → s.seq.set = none → s.seq.slip = some x →
    s.modes.current = .proof → s.line.tx.length < 16 → s.inputs.gate.debounced = true →
    let r := elapse (untilGateEnd s) s
    let factor := factorFromCounts s.meter.count j.refCount j.cal
    let steps := (s.tables.pattern[x.slip.pattern]).map fun v => (v, stepTime s.tables.stock[x.slip.stock] factor v)
    let card : Card :=
      { kind := txt "PF"
        fields := [dec x.slip.number, dec (proofDensity factor.f256), dec factor.f256]
          ++ steps.flatMap fun p => [stepText p.1, dec p.2.time, marksText p.2.marks] }
    let clamp := steps.any fun p => p.2.marks.overdense || p.2.marks.underdense || p.2.marks.clampLow || p.2.marks.clampHigh
    0 < cooling r →
      exec .gatePhaseEnd s = .next { r with
        line := raised s.stand ((if clamp then [.clamp] else []) ++ endedFlags s.store.ended ++ [.remove])
          { r.line with tx := s.line.tx ++ [card], pfWaiting := none }
        lamp := dark (cooling r) r.lamp
        meter := { meterFree r.meter with timeBase := 0 }
        store := { s.store with
          ended := joinEnded s.store.ended { slip := x.slip.number, ending := .proofed, made := 0, incomplete := 0 } }
        seq := { state := .removal, wait := none, slip := none, set := none } }

/-! ### Lamp, shutter and stand inputs (spec/07) -/

/-- The warm-up ends (R119, R62, R63, R95): the lamp is LIT, and its user's metering begins with R, c and the time base as
they stand, for the calibration, and for a sequencer in WARMING whose slip has no density. A slip with a density is not
metered: its lighting counts as metered with the factor it has, and within the same event its set starts, here with every
check passing and the first step within the allowance (R97 to R102), its proof is made (R112 to R114), or inside a set its
step goes on with the times of the steps not yet exposed taken anew (R100, R101). The time the timer has left passes first
(the model's choice, log 3); with a report delay of 0 a PF card stands before the EV card of its event (log 10). -/
def Obligations.WarmUpEnds : Prop :=
  ∀ (s : State) (n : Nat), s.lamp.warmUp = some n → s.meter.phase = .idle →
    let e := elapse n s
    let m (u : User) : Meter := { e.meter with
      count := 16777216 - s.meter.entry.refCount, timeBase := 0, phase := .reference
      job := some { user := u, refCount := s.meter.entry.refCount, cal := s.meter.entry.cal, base := s.meter.entry.base } }
    (s.lamp.user = some .calibration →
      exec .warmUpExpiry s = .next { e with lamp := { e.lamp with state := .lit, warmUp := none }, meter := m .calibration })
    ∧ (∀ x, s.lamp.user = some .sequencer → s.seq.state = .warming → s.seq.slip = some x → x.slip.density = none →
      exec .warmUpExpiry s = .next { e with
        lamp := { e.lamp with state := .lit, warmUp := none }, meter := m .sequencer
        seq := { s.seq with state := .metering } })
    ∧ ∀ (x : Current) (d : Nat), s.lamp.user = some .sequencer → s.seq.state = .warming → s.seq.slip = some x →
      x.slip.density = some d → s.lamp.waiting = none →
      let u : State := { e with lamp := { e.lamp with state := .lit, warmUp := none } }
      let room := 10 * (guardLimitMs s - e.lamp.lit / Config.ms)
      (∀ (i : Fin 4) (roll : Roll) (v : Int) (vs : List Int), s.seq.set = none → FitToOpen s → SetMayStart s x.slip i roll →
        s.tables.pattern[x.slip.pattern] = v :: vs → 1 ≤ roll.next → (∀ r ∈ s.records, ¬ (r.slot = i ∧ r.frame = roll.next)) →
        (stepTime s.tables.stock[x.slip.stock] x.factor v).time ≤ room →
        exec .warmUpExpiry s = .next (setBegun i roll.next x (v :: vs) u))
      ∧ (s.seq.set = none → s.modes.current = .proof → s.line.tx.length < 16 → s.inputs.gate.debounced = true → 0 < cooling e →
        exec .warmUpExpiry s = .next (proofMade x u))
      ∧ (∀ (y : SetCtx) (h : Nat) (i : Fin 4) (roll : Roll) (t : StepTime), s.seq.set = some y → y.head = some h → FitToOpen s →
        s.film.state = .ready → cameraSlot s.film = some i → s.film.rolls[i] = some roll → 1 ≤ roll.next →
        roll.next ≤ roll.capacity → s.records.length < 2048 → (∀ r ∈ s.records, ¬ (r.slot = i ∧ r.frame = roll.next)) →
        let y' : SetCtx :=
          { y with times := y.times.take (y.step - 1) ++ (y.pattern.map (stepTime y.stock x.factor)).drop (y.step - 1) }
        y'.times[y.step - 1]? = some t → t.time ≤ room →
        exec .warmUpExpiry s = .next (stepExposed i roll.next h { x with metered := true } y' t u))

/-- The cool-down ends (R123): with no request waiting the lamp is OFF, and a step that waits inside a set on LAMP begins
again, here to relight the lamp (R100); a waiting request is served at once, the lamp WARMING for it (R118). A wait outside
a set is evaluated again (R98): in RUN a set start that waits for the roll of R106 goes on showing ROLL (its reach: the
model's reading, log 27), and otherwise by the checks of R97 in order, the first that fails giving the cause, with the roll
closed short by a failed check 4, MAP by check 5 and ACCOUNT by check 6, and the lamp lit when all pass; in PROOF the lamp
is lit (R112). The time the timer has left passes first (the model's choice, log 3). -/
def Obligations.CoolDownEnds : Prop :=
  ∀ (s : State) (n : Nat), s.lamp.coolDown = some n →
    let e := elapse n s
    let warming (u : User) : Lamp :=
      { state := .warming, user := some u, waiting := none, lit := 0, warmUp := some (s.meter.entry.warmUp * 10 * Config.ms), coolDown := none }
    (s.lamp.waiting = none → s.seq.state ≠ .setReady →
      exec .coolDownExpiry s = .next { e with lamp := { e.lamp with state := .off, coolDown := none, waiting := none } })
    ∧ (∀ u, s.lamp.waiting = some u → s.meter.entry.warmUp ≠ 0 →
      exec .coolDownExpiry s = .next { e with lamp := warming u })
    ∧ (∀ (c : Current) (x : SetCtx) (i : Fin 4) (roll : Roll), s.lamp.waiting = none → s.meter.entry.warmUp ≠ 0 →
        s.seq.state = .setReady → s.seq.wait = some .lamp → s.seq.set = some x → s.seq.slip = some c →
        s.film.state = .ready → cameraSlot s.film = some i → s.film.rolls[i] = some roll → roll.next ≤ roll.capacity →
        s.records.length < 2048 → s.meter.job = none → s.modes.change ≠ .boundary →
      exec .coolDownExpiry s = .next { e with
        lamp := warming .sequencer, seq := { s.seq with state := .warming, wait := none } })
    ∧ ∀ c : Current, s.lamp.waiting = none → s.seq.state = .setReady → s.seq.set = none → s.seq.slip = some c →
      let waits (w : WaitCause) (fs : List Flag) : State := { e with
        lamp := { e.lamp with state := .off, coolDown := none, waiting := none }
        line := raised s.stand fs e.line
        seq := { s.seq with wait := some w } }
      let lights : State := { e with lamp := warming .sequencer, seq := { s.seq with state := .warming, wait := none } }
      (s.modes.current = .proof → s.meter.job = none → s.meter.entry.warmUp ≠ 0 → exec .coolDownExpiry s = .next lights)
      ∧ (s.modes.current = .run →
        (cameraSlot s.film = none ∨ awaitsRoll s.film = true → exec .coolDownExpiry s = .next (waits .roll []))
        ∧ ∀ (i : Fin 4) (roll : Roll), cameraSlot s.film = some i → s.film.rolls[i] = some roll →
          let len := (s.tables.pattern[c.slip.pattern]).length
          (roll.stock ≠ c.slip.stock → awaitsRoll s.film = false → exec .coolDownExpiry s = .next (waits .stock []))
          ∧ (roll.stock = c.slip.stock →
            (∀ k, s.film.state = .faultJam k → exec .coolDownExpiry s = .next (waits .transport []))
            ∧ (s.film.state ≠ .ready → (∀ k, s.film.state ≠ .faultJam k) → exec .coolDownExpiry s = .next (waits .roll []))
            ∧ (s.film.state = .ready → roll.capacity + 1 < roll.next + len → 0 < len →
              exec .coolDownExpiry s = .next { waits .roll [.roll] with
                film := withRoll i (some { roll with next := roll.capacity + 1 }) { e.film with state := .suspFrames } })
            ∧ (s.film.state = .ready → roll.next + len ≤ roll.capacity + 1 →
              (2048 < s.records.length + len → 0 < len → exec .coolDownExpiry s = .next (waits .map [.map]))
              ∧ (s.records.length + len ≤ 2048 → ceilingFits s c.slip = false →
                exec .coolDownExpiry s = .next (waits .account [.account])))))
      ∧ ∀ (i : Fin 4) (roll : Roll), s.modes.current = .run → SetMayStart s c.slip i roll → s.meter.job = none →
        s.meter.entry.warmUp ≠ 0 → exec .coolDownExpiry s = .next lights

/-- The guard expires (R122): in LIT the lit time reaches the limit, the lamp is forced off for the full cool-down and
GUARD is set; with the lamp not LIT there is no expiry and nothing changes (the model's choice, log 3). A calibration ends
with nothing stored (R74); a metering of the sequencer, outside a set or inside one, is abandoned and it waits on LAMP
(R104); an advance runs on (R103, R104); an exposure is cut, its record SPOILED with no fee, and the film advances so that
the same step is made again (R103). A TB STAND write that brings the limit to or below the lit time has the same effect in
its own event (R124), said here of a metering; with a report delay of 0 its OK card stands before the EV card (the
model's choice, log 10), and its index is a free value where the console did not write it in plain decimal (log 1). The
time to the limit passes first (the model's choice, log 3). -/
def Obligations.GuardExpires : Prop :=
  (∀ s : State, s.lamp.state ≠ .lit → exec .guardExpiry s = .next s)
  ∧ (∀ s : State, s.lamp.state = .lit → s.stand.coolDown ≠ 0 →
    let e := elapse (guardLimitMs s * Config.ms - s.lamp.lit) s
    let forced : State := { e with
      line := raised s.stand [.guard] e.line, lamp := dark (s.stand.coolDown * 1000) e.lamp, meter := meterFree e.meter
      seq := { s.seq with slip := s.seq.slip.map unlit } }
    (s.lamp.user = some .calibration → s.lamp.waiting = none → s.shutter.opened = false → s.modes.change ≠ .cal →
      exec .guardExpiry s = .next { forced with meter := { forced.meter with calibrating := false } })
    ∧ (s.lamp.user = some .sequencer → s.shutter.opened = false → s.seq.state = .metering →
        (s.seq.set = none ∨ s.modes.change ≠ .boundary) →
      exec .guardExpiry s = .next { forced with seq := { forced.seq with state := .setReady, wait := some .lamp } })
    ∧ (s.lamp.user = some .sequencer → s.shutter.opened = false → s.seq.state = .advancing →
      exec .guardExpiry s = .next forced)
    ∧ (∀ (x : SetCtx) (i : Fin 4) (roll : Roll), s.lamp.user = some .sequencer → s.shutter.opened = true →
        s.seq.state = .exposing → s.seq.set = some x → s.film.state = .ready → cameraSlot s.film = some i →
        s.film.rolls[i] = some roll → roll.next < roll.capacity → s.inputs.rollEnd.debounced = false →
      exec .guardExpiry s = .next { forced with
        shutter := { opened := false, timer := none }
        records := s.records.map fun r =>
          if (r.slot = i ∧ r.frame = roll.next) ∧ r.kind = .exposing then { r with kind := .spoiled } else r
        film := advancing s.stand e.film
        seq := { forced.seq with state := .advancing, wait := none, set := some { x with again := true } } }))
  ∧ ∀ (s : State) (index : Text) (fields : List Text) (x : StandEntry), s.line.tx.length < 16 →
    finField 1 index = some 0 → standFields s.stand fields = some x → s.meter.entry.warmUp * 10 + 1000 ≤ x.guardLimit * x.guardUnit * 1000 →
    (x.guardLimit ≠ s.stand.guardLimit ∨ x.guardUnit ≠ s.stand.guardUnit) → s.lamp.state = .lit →
    x.guardLimit * x.guardUnit * 1000 ≤ s.lamp.lit / Config.ms → x.coolDown ≠ 0 → s.lamp.user = some .sequencer →
    s.shutter.opened = false → s.seq.state = .metering → (s.seq.set = none ∨ s.modes.change ≠ .boundary) →
    exec (.tbStand (index :: fields)) s = .next { s with
      stand := x
      line := raised x [.guard] (lineSends (okCard (txt "TB") [txt "STAND", natKey index 0]) s.line)
      lamp := dark (x.coolDown * 1000) s.lamp
      meter := meterFree s.meter
      seq := { s.seq with state := .setReady, wait := some .lamp, slip := s.seq.slip.map unlit } }

/-- The switch inputs (R129, R131). A raw level that differs from the debounced one starts the timer of 10 ms, and one
that has come back stops it. When the timer has run out, the debounced level is the raw one, and an edge that the input's
event edge matches puts on its edge-seen mark; the other inputs only age. The time the timer has left passes first (the
model's choice, log 3). -/
def Obligations.InputsDebounced : Prop :=
  ∀ (s : State) (i : Input),
    let l := s.inputs.line i
    (∀ active : Bool,
      let l' := { l with raw := active, timer := if active = l.debounced then none else some (10 * Config.ms) }
      exec (.rawLevelChange i active) s = if active = l.raw then .next s else .next { s with inputs := s.inputs.put i l' })
    ∧ (l.timer = none → exec (.debounceExpiry i) s = .next s)
    ∧ (∀ n, l.timer = some n → l.raw = l.debounced →
        exec (.debounceExpiry i) s = .next { elapse n s with inputs := (s.inputs.after n).put i { l with timer := none } })
    ∧ ∀ n, l.timer = some n → l.raw ≠ l.debounced →
        ∃ t, exec (.debounceExpiry i) s = .next t ∧ t.inputs = edgeCounted n s i

/-- Where counted edges go (R74, R94, R96, R130, R131, R140, R142, R144, R148, R28). With the shutter CLOSED: a MARK edge
of the kind an advance reads ends it, here a leader's. A roll-end rise stops an advance in flight, here one that nothing
awaits, in SUSPENDED(SENSOR) with ROLL. A pause rise requests HOLD, here pending at BOUNDARY inside a set; its fall does
nothing; and with the shutter OPEN and its conditions holding the request pends and the exposure goes on. The original's
arrival in LOADING asks for the lamp, and with a calibration in flight it ends the calibration with METER set and nothing
stored. The original's departure in REMOVAL makes the state LOADING, or IDLE with no slip, here with no head for the arbiter
to choose; in WARMING, METERING and SET_READY at a set start, and in ADVANCING and those states inside a set, it is R96's
removal: the lamp goes dark if it is on for the sequencer, a waiting request is withdrawn, a set ends INCOMPLETE and an
advance runs on; the slip waits in LOADING, or ends after its last copy. The door's closing starts the leader advance that
waits for it. Its opening withdraws a leader advance in LOADING, changes nothing in NO_ROLL, FAULT(DOOR) and a LOADING that
waits, and in the other states fogs the camera roll: here where nothing is evaluated; with a set start waiting outside a set,
which then shows ROLL; and during an advance or a wait inside a set, which ends INCOMPLETE and whose slip goes on to wait on
ROLL, with the lamp COOLING and with a camera roll of another stock too (R106, R148; that their words go before the order of
R97's checks: log 27). That a lit lamp goes dark in the event is the model's reading (log 21). A matching edge sets its flag.
With a report delay of 0 the flags of an event stand on one EV card (log 10). The time the debounce timer has left passes
first (the model's choice, log 3). -/
def Obligations.EdgesReachTheirBlocks : Prop :=
  (∀ (s : State) (n : Nat), s.shutter.opened = false →
      let e := elapse n s
      (∀ a, s.inputs.mark.timer = some n → s.inputs.mark.raw = !s.inputs.mark.debounced → s.film.flight = some a →
        a.kind = .leader → a.edge = s.stand.markEdge → (s.stand.markEdge = if s.inputs.mark.raw then .rise else .fall) →
        undisturbed s = true →
        exec (.debounceExpiry .mark) s =
          .next { e with inputs := edgeCounted n s .mark, film := { s.film with state := .ready, flight := none } })
      ∧ (∀ a, s.inputs.rollEnd.timer = some n → s.inputs.rollEnd.raw = true → s.inputs.rollEnd.debounced = false →
        s.film.flight = some a → (a.kind = .leader ∨ s.seq.state ≠ .advancing) → undisturbed s = true →
        exec (.debounceExpiry .rollEnd) s = .next { e with
          inputs := edgeCounted n s .rollEnd, film := { s.film with state := .suspSensor a.kind, flight := none }
          line := raised s.stand [.roll] e.line })
      ∧ (s.inputs.pause.timer = some n → s.inputs.pause.raw = !s.inputs.pause.debounced →
        let line := raised s.stand (if marksEdge s.stand .pause s.inputs.pause.raw then [.pause] else []) e.line
        (s.inputs.pause.raw = false →
          exec (.debounceExpiry .pause) s = .next { e with inputs := edgeCounted n s .pause, line })
        ∧ (s.inputs.pause.raw = true → s.modes.current = .run → s.seq.set.isSome = true →
            (s.seq.state = .exposing ∨ s.seq.state = .advancing) →
          exec (.debounceExpiry .pause) s = .next { e with
            inputs := edgeCounted n s .pause, line, modes := { requested := .hold, current := .run, change := .boundary } }))
      ∧ (s.inputs.gate.timer = some n → s.inputs.gate.raw = true → s.inputs.gate.debounced = false → s.seq.state = .loading →
        (s.modes.current = .run ∨ s.modes.current = .proof) → s.meter.calibrating = false → s.lamp.state = .off →
        s.meter.entry.warmUp ≠ 0 →
        exec (.debounceExpiry .gate) s = .next { e with
          inputs := edgeCounted n s .gate
          seq := { s.seq with state := .warming, wait := none }
          lamp := { e.lamp with
            state := .warming, user := some .sequencer, lit := 0, warmUp := some (s.meter.entry.warmUp * 10 * Config.ms) } })
      ∧ (s.inputs.door.timer = some n → s.inputs.door.raw = false → s.inputs.door.debounced = true → s.film.state = .loading →
        s.film.flight = none → s.inputs.rollEnd.debounced = false → undisturbed s = true →
        exec (.debounceExpiry .door) s = .next { e with
          inputs := edgeCounted n s .door
          film := { s.film with
            flight := some { kind := .leader, edge := s.stand.markEdge, left := s.stand.advanceTimeout * Config.ms } }
          line := raised s.stand (if marksEdge s.stand .door false then [.door] else []) e.line }))
  ∧ (∀ (s : State) (n : Nat), s.shutter.opened = true → s.lamp.state = .lit → s.modes.current = .run → s.film.state = .ready →
      s.inputs.door.debounced = false → s.inputs.gate.debounced = true → s.seq.state = .exposing → s.seq.set.isSome = true →
      s.inputs.pause.timer = some n → s.inputs.pause.raw = true → s.inputs.pause.debounced = false →
      let e := elapse n s
      exec (.debounceExpiry .pause) s = .next { e with
        inputs := edgeCounted n s .pause
        line := raised s.stand (if marksEdge s.stand .pause true then [.pause] else []) e.line
        modes := { requested := .hold, current := .run, change := .boundary } })
  ∧ (∀ (s : State) (n : Nat), s.shutter.opened = false → s.inputs.gate.timer = some n → s.inputs.gate.raw = true →
      s.inputs.gate.debounced = false → s.meter.calibrating = true → s.modes.change ≠ .cal →
      (s.modes.current = .setup ∨ s.modes.current = .hold) → (s.lamp.state = .warming ∨ s.lamp.state = .lit) →
      s.lamp.user = some .calibration →
      let e := elapse n s
      0 < cooling e →
      exec (.debounceExpiry .gate) s = .next { e with
        inputs := edgeCounted n s .gate
        line := raised s.stand [.meter] e.line
        lamp := dark (cooling e) e.lamp
        meter := { meterFree e.meter with calibrating := false }
        seq := { s.seq with slip := s.seq.slip.map unlit } })
  ∧ (∀ (s : State) (n : Nat), s.shutter.opened = false → s.inputs.gate.timer = some n → s.inputs.gate.raw = false →
      s.inputs.gate.debounced = true → (s.modes.current = .run ∨ s.modes.current = .proof) → s.modes.change ≠ .boundary →
      let e : State := { elapse n s with inputs := edgeCounted n s .gate }
      let on := (s.lamp.state = .warming ∨ s.lamp.state = .lit) ∧ s.lamp.user = some .sequencer ∧ s.lamp.waiting = none
      let off := s.lamp.state = .off ∨ s.lamp.state = .cooling ∧ s.lamp.waiting = none
      let loading (c : Current) (u : State) : State := { u with
        line := raised s.stand [.original] u.line
        seq := { state := .loading, wait := none, set := none, slip := some c } }
      (∀ c, s.seq.state = .removal → s.seq.slip = some c →
        exec (.debounceExpiry .gate) s = .next { e with
          line := raised s.stand [.original] e.line, seq := { s.seq with state := .loading, wait := none } })
      ∧ (s.seq.state = .removal → s.seq.slip = none → (∀ k : Fin 8, testedHead s k = none) →
        exec (.debounceExpiry .gate) s = .next { e with seq := { s.seq with state := .idle, wait := none } })
      ∧ (∀ c, (s.seq.state = .warming ∨ s.seq.state = .metering ∨ s.seq.state = .setReady) → s.seq.set = none →
        s.seq.slip = some c →
        (on → 0 < cooling e → exec (.debounceExpiry .gate) s = .next (loading (unlit c) (darkened e)))
        ∧ (s.lamp.state = .cooling → s.lamp.waiting = some .sequencer →
          exec (.debounceExpiry .gate) s = .next (loading c { e with lamp := { e.lamp with waiting := none } }))
        ∧ (off → exec (.debounceExpiry .gate) s = .next (loading c e)))
      ∧ (∀ (c : Current) (x : SetCtx) (i : Fin 4) (h : Nat), (s.seq.state = .warming ∨ s.seq.state = .metering
          ∨ s.seq.state = .setReady ∨ s.seq.state = .advancing) → s.seq.set = some x → x.head = some h → s.seq.slip = some c →
        cameraSlot s.film = some i →
        let c' := setOver false c
        let marked (u : State) : State := { u with records := headMarked i h .incomplete s.records }
        (c.slip.cancelPending = false → c.copy < c.slip.copies →
          (on → 0 < cooling e →
            exec (.debounceExpiry .gate) s = .next (loading (unlit { c' with copy := c.copy + 1 }) (marked (darkened e))))
          ∧ (off → exec (.debounceExpiry .gate) s = .next (loading { c' with copy := c.copy + 1 } (marked e))))
        ∧ (c.slip.cancelPending = true ∨ c.slip.copies ≤ c.copy → (∀ k : Fin 8, testedHead s k = none) →
          let ending : Ending := if c.slip.cancelPending then .cancelled else lastEnding c'
          (on → 0 < cooling e → exec (.debounceExpiry .gate) s = .next (slipOut [] ending c' (marked (darkened e))))
          ∧ (off → exec (.debounceExpiry .gate) s = .next (slipOut [] ending c' (marked e))))))
  ∧ ∀ (s : State) (n : Nat), s.shutter.opened = false → s.inputs.door.timer = some n → s.inputs.door.raw = true →
      s.inputs.door.debounced = false →
      let e : State := { elapse n s with inputs := edgeCounted n s .door }
      let seen : List Flag := if marksEdge s.stand .door true then [.door] else []
      ((s.film.state = .noRoll ∨ s.film.state = .faultDoor ∨ s.film.state = .loading ∧ s.film.flight = none) →
        exec (.debounceExpiry .door) s = .next { e with line := raised s.stand seen e.line })
      ∧ (s.film.state = .loading → s.film.flight.isSome = true → undisturbed s = true →
        exec (.debounceExpiry .door) s =
          .next { e with line := raised s.stand seen e.line, film := { e.film with flight := none } })
      ∧ ∀ (i : Fin 4) (roll : Roll), s.film.state ≠ .noRoll → s.film.state ≠ .faultDoor → s.film.state ≠ .loading →
        cameraSlot s.film = some i → s.film.rolls[i] = some roll →
        (s.seq.set = none → undisturbed s = true →
          exec (.debounceExpiry .door) s = .next { fogged i roll e with line := raised s.stand [.door] e.line })
        ∧ (∀ c : Current, s.seq.set = none → s.seq.state = .setReady → s.seq.slip = some c → s.modes.current = .run →
          s.lamp.user ≠ some .sequencer →
          exec (.debounceExpiry .door) s = .next { fogged i roll e with
            line := raised s.stand [.door] e.line, seq := { s.seq with wait := some .roll } })
        ∧ (∀ (c : Current) (x : SetCtx) (h : Nat), (s.seq.state = .advancing ∨ s.seq.state = .setReady) → s.seq.set = some x →
          x.head = some h → s.seq.slip = some c → c.slip.cancelPending = false → c.copy < c.slip.copies →
          s.modes.current = .run → s.modes.change ≠ .boundary →
          let waits (y : Current) (u : State) : State := { u with
            line := raised s.stand [.door] e.line
            records := headMarked i h .incomplete u.records
            seq := { state := .setReady, wait := some .roll, set := none, slip := some y } }
          let next : Current := { setOver false c with copy := c.copy + 1 }
          (s.lamp.user ≠ some .sequencer → exec (.debounceExpiry .door) s = .next (waits next (fogged i roll e)))
          ∧ (s.lamp.state = .lit → s.lamp.user = some .sequencer → 0 < cooling e →
            exec (.debounceExpiry .door) s = .next (waits (unlit next) (darkened (fogged i roll e)))))

/-- The exposure conditions that cease under an open shutter close it in the same event (R128). The original taken out
in EXPOSING leaves the step's record SPOILED with no fee; the film is asked to advance past it, and is put in flight,
or is stopped at its last frame or at the roll's end (R141, R155; that R96's removal asks so is the model's reading,
log 26); the lamp goes dark, the set ends INCOMPLETE, and the slip, here with copies left, waits in LOADING for its
original (R96, R106, R107). The door's opening fogs the camera roll (R106, R148, R158, R194): its EXPOSING and EXPOSED
records become FOGGED, their PROVISIONAL fees are reversed, the set ends INCOMPLETE and the sequencer, here with
copies left, waits on ROLL with the lamp dark: that the lamp goes dark in this same event is the model's reading (log
21). With a report delay of 0 the flags of the event stand on one EV card at its end (log 10). The time the debounce timer has left passes first (the model's
choice, log 3). -/
def Obligations.ConditionCeasesClosesShutter : Prop :=
  ∀ (s : State) (n : Nat) (x : SetCtx) (c : Current) (i : Fin 4) (roll : Roll) (h : Nat),
    s.shutter.opened = true → s.seq.state = .exposing → s.seq.set = some x → x.head = some h → s.seq.slip = some c →
    s.modes.current = .run → s.modes.change ≠ .boundary → c.slip.cancelPending = false → c.copy < c.slip.copies →
    s.lamp.state = .lit → s.lamp.user = some .sequencer → s.film.state = .ready → s.film.flight = none →
    cameraSlot s.film = some i → s.film.rolls[i] = some roll → s.meter.calibrating = false →
    let e := elapse n s
    let ended (r : Record) : Record :=
      if r.slot = i ∧ r.frame = h then { r with data := r.data.map fun d => { d with status := .incomplete } } else r
    let next : Current := unlit { c with incomplete := c.incomplete + 1, copy := c.copy + 1 }
    0 < cooling e →
    (s.inputs.gate.timer = some n → s.inputs.gate.raw = false → s.inputs.gate.debounced = true →
      exec (.debounceExpiry .gate) s = .next { e with
        inputs := edgeCounted n s .gate
        shutter := { opened := false, timer := none }
        lamp := dark (cooling e) e.lamp
        meter := meterFree e.meter
        line := raised s.stand
          (.original :: if roll.capacity ≤ roll.next ∨ s.inputs.rollEnd.debounced = true then [.roll] else []) e.line
        film :=
          if roll.capacity ≤ roll.next then
            withRoll i (some { roll with next := roll.capacity + 1 }) { s.film with state := .suspFrames }
          else if s.inputs.rollEnd.debounced then { s.film with state := .suspSensor .frame }
          else advancing s.stand s.film
        records := (s.records.map fun r =>
          if r.slot = i ∧ r.frame = roll.next ∧ r.kind = .exposing then { r with kind := .spoiled } else r).map ended
        seq := { state := .loading, wait := none, set := none, slip := some next } })
    ∧ (s.inputs.door.timer = some n → s.inputs.door.raw = true → s.inputs.door.debounced = false →
      exec (.debounceExpiry .door) s = .next { e with
        inputs := edgeCounted n s .door
        shutter := { opened := false, timer := none }
        lamp := dark (cooling e) e.lamp
        meter := meterFree e.meter
        line := raised s.stand [.door] e.line
        film := withRoll i (some { roll with fogged := true }) { s.film with state := .faultDoor }
        money := reversed (fun r => decide (r.slot = i ∧ r.kind = .exposed ∧ r.charge = .provisional)) s.records s.money
        records := (s.records.map fun r =>
          if r.slot = i ∧ (r.kind = .exposing ∨ r.kind = .exposed) then
            { r with
              kind := .fogged
              charge := if r.kind = .exposing then .none else if r.charge = .provisional then .reversed else r.charge }
          else r).map ended
        seq := { state := .setReady, wait := some .roll, set := none, slip := some next } })

/-! ### Film transport and roll table (spec/08) -/

/-- A roll comes and goes (R139, R140, R141, R149). An RL card carries the roll number, the stock code and the
capacity. RL is refused FIELD for a malformed field or an undefined stock, STATE with a roll on the camera, SLOT with
no slot EMPTY, DUPLICATE for a number held; accepted, the lowest EMPTY slot is CAMERA and the leader advance begins at
once, waits for an open door, or is stopped by an active roll end. UL is refused FIELD, STATE with no roll, BUSY
inside a set that does not wait on TRANSPORT; accepted outside a set, the slot becomes EMPTY from LOADING and AWAY
otherwise, and an advance in flight is stopped. In a TRANSPORT wait a set ends INCOMPLETE, and the set start waits with cause
ROLL, with the lamp COOLING too (R106); so it does when the roll leaves in FAULT(DOOR), and in any other wait with the lamp
COOLING it shows LAMP by the order of R97 (how long R106's ROLL lasts, and that it reaches a wait outside a set: the model's
reading, log 27). With a report delay of 0 the reply stands before the EV card of the same event (the model's choice, log 10). RL's reply holds a free value for a number that the console did not write in plain
decimal (log 1). -/
def Obligations.RollLoadedAndUnloaded : Prop :=
  (∀ (fields : List Text) (number : Nat) (stock : Fin 8) (capacity : Nat),
    rollFields fields = some (number, stock, capacity) ↔ ∃ f1 f2 f3, fields = [f1, f2, f3]
      ∧ Spells f1 number ∧ 1 ≤ number ∧ number ≤ 9999 ∧ Spells f2 stock.val ∧ Spells f3 capacity ∧ 20 ≤ capacity
      ∧ capacity ≤ 800)
  ∧ ∀ (s : State), s.line.tx.length < 16 →
    (∀ fields : List Text,
      let no (r : Reason) := Host.Outcome.next (sends (noCard (txt "RL") [fields.getD 0 []] r) s)
      (rollFields fields = none → exec (.rl fields) s = no .field)
      ∧ ∀ number stock capacity, rollFields fields = some (number, stock, capacity) →
        ((s.tables.stock[stock]).base = 0 → exec (.rl fields) s = no .field)
        ∧ ((s.tables.stock[stock]).base ≠ 0 →
          (s.film.state ≠ .noRoll → exec (.rl fields) s = no .state)
          ∧ (s.film.state = .noRoll → (∀ i : Fin 4, s.film.rolls[i] ≠ none) → exec (.rl fields) s = no .slot)
          ∧ ∀ i : Fin 4, s.film.state = .noRoll → s.film.rolls[i] = none → (∀ j, j < i → s.film.rolls[j] ≠ none) →
            ((∃ j : Fin 4, (s.film.rolls[j]).map Roll.number = some number) → exec (.rl fields) s = no .duplicate)
            ∧ ((∀ j : Fin 4, (s.film.rolls[j]).map Roll.number ≠ some number) → undisturbed s = true →
              let stopped := !s.inputs.door.debounced && s.inputs.rollEnd.debounced
              let film : Film := withRoll i
                (some { state := .camera, number, stock, capacity, next := 1, fogged := false })
                { s.film with
                  state := if stopped then .suspSensor .leader else .loading
                  flight :=
                    if s.inputs.door.debounced || s.inputs.rollEnd.debounced then none
                    else some { kind := .leader, edge := s.stand.markEdge, left := s.stand.advanceTimeout * Config.ms } }
              exec (.rl fields) s = .next { s with
                film
                line := raised s.stand (if stopped then [.roll] else [])
                  (lineSends (okCard (txt "RL") [natKey (fields.getD 0 []) number]) s.line) })))
    ∧ (∀ fields, fields ≠ [] → exec (.ul fields) s = .next (sends (noCard (txt "UL") [] .field) s))
    ∧ (s.film.state = .noRoll → exec (.ul []) s = .next (sends (noCard (txt "UL") [] .state) s))
    ∧ (s.film.state ≠ .noRoll → s.seq.set.isSome = true → ¬ (s.seq.state = .setReady ∧ s.seq.wait = some .transport) →
        exec (.ul []) s = .next (sends (noCard (txt "UL") [] .busy) s))
    ∧ ∀ (i : Fin 4) (r : Roll), s.film.state ≠ .noRoll → cameraSlot s.film = some i → s.film.rolls[i] = some r →
        let left : Film := { s.film with
          state := .noRoll, flight := none
          told := decide (s.seq.state = .setReady ∧ s.seq.wait = some .transport) || awaitsRoll s.film }
        let film : Film :=
          if s.film.state = .loading then withRoll i none { left with order := s.film.order.filter (· ≠ i) }
          else withRoll i (some { r with state := .away }) left
        let unloaded : State := sends (okCard (txt "UL") []) { s with film }
        (s.seq.set = none → undisturbed s = true → exec (.ul []) s = .next unloaded)
        ∧ (∀ c : Current, s.seq.set = none → s.seq.state = .setReady → s.seq.slip = some c → s.modes.current = .run →
          s.lamp.state = .cooling → s.lamp.user = none →
          exec (.ul []) s = .next { unloaded with seq := { s.seq with wait := some (if left.told then .roll else .lamp) } })
        ∧ (∀ (c : Current) (x : SetCtx) (h : Nat), s.seq.state = .setReady → s.seq.wait = some .transport →
          s.seq.set = some x → x.head = some h → s.seq.slip = some c → c.slip.cancelPending = false → c.copy < c.slip.copies →
          s.modes.current = .run → s.modes.change ≠ .boundary → s.lamp.user ≠ some .sequencer →
          exec (.ul []) s = .next { unloaded with
            records := headMarked i h .incomplete s.records
            seq := { state := .setReady, wait := some .roll, set := none
                     slip := some { setOver false c with copy := c.copy + 1 } } })

/-- An RT card (R150, R159): refused FIELD, UNKNOWN for a number no slot holds, STATE for a slot that is not AWAY.
Accepted with a slot MOUNTING, the slot is RETURNED at the tail of the return order and the automatic decisions are made:
a set with no EXPOSED frame is discarded, one with a single EXPOSED frame keeps it. With none MOUNTING, the hand-over runs
(R135): with an empty order the roll itself becomes MOUNTING at frame 1, is fed unless the feed hold is on, and closes out
at once if it can be (R164, R165, R195). A DR card (R151): refused FIELD, UNKNOWN, STATE for the CAMERA roll but
in FAULT(DOOR), BUSY while its label awaits an answer; accepted, its records and labels go, their PROVISIONAL fees are
reversed, and its slot is EMPTY, the transport NO_ROLL if it was on the camera; if it was MOUNTING, the
hand-over follows (R135, R182). A set start that waits with cause ROLL after FAULT(DOOR) is still held so (log 27). With a report delay of 0 the reply stands before the EV card that names CLOSED (the
model's choice, log 10). The reply's number is a free value where the console did not write it in plain decimal (log 1). -/
def Obligations.RollReturnedOrDropped : Prop :=
  ∀ (s : State) (fields : List Text), s.line.tx.length < 16 →
    let no (kind : Text) (r : Reason) := Host.Outcome.next (sends (noCard kind [fields.getD 0 []] r) s)
    (oneField (natField 1 9999) fields = none →
      exec (.rt fields) s = no (txt "RT") .field ∧ exec (.dr fields) s = no (txt "DR") .field)
    ∧ ∀ n, oneField (natField 1 9999) fields = some n →
      ((∀ i : Fin 4, (s.film.rolls[i]).map Roll.number ≠ some n) →
        exec (.rt fields) s = no (txt "RT") .unknown ∧ exec (.dr fields) s = no (txt "DR") .unknown)
      ∧ ∀ (i : Fin 4) (r : Roll), holdsRoll s.film n i r →
        let ok (kind : Text) := okCard kind [natKey (fields.getD 0 []) n]
        let decided := s.records.map fun x =>
          if x.slot = i ∧ exposedOf i x.head s.records = 0 then { x with decision := .discard }
          else if x.slot = i ∧ exposedOf i x.head s.records = 1 then
            { x with decision := if x.kind = .exposed then .keep else .discard }
          else x
        let busy := decide (s.labels.printer = .sending ∨ s.labels.printer = .sent ∨ s.labels.printer = .stopped .silent)
          && s.labels.spool.head?.any fun l => decide (l.slot = i)
        (r.state ≠ .away → exec (.rt fields) s = no (txt "RT") .state)
        ∧ (r.state = .away → mountingSlot s.film ≠ none → undisturbed s = true →
          exec (.rt fields) s = .next (sends (ok (txt "RT")) { s with
            film := withRoll i (some { r with state := .returned }) { s.film with order := s.film.order ++ [i] }
            records := decided }))
        ∧ (r.state = .away → mountingSlot s.film = none → FramesApart s → BalanceLaw s → undisturbed s = true →
          ∃ t, exec (.rt fields) s = .next t
            ∧ HandsOver (sends (ok (txt "RT")) { s with
                film := withRoll i (some { r with state := .returned }) { s.film with order := s.film.order ++ [i] }
                records := decided }) t)
        ∧ (r.state = .away → mountingSlot s.film = none → s.film.order = [] → s.labels.feedHold = true →
            (∃ x ∈ decided, x.slot = i ∧ x.decision ≠ .discard ∧ (x.decision = .keep → x.label ≠ .printed)) →
            undisturbed s = true →
          exec (.rt fields) s = .next (sends (ok (txt "RT")) { s with
            film := withRoll i (some { r with state := .mounting 1 }) s.film
            records := decided }))
        ∧ (r.state = .camera → s.film.state ≠ .faultDoor → exec (.dr fields) s = no (txt "DR") .state)
        ∧ ((r.state ≠ .camera ∨ s.film.state = .faultDoor) → busy = true → exec (.dr fields) s = no (txt "DR") .busy)
        ∧ ((r.state ≠ .camera ∨ s.film.state = .faultDoor) → busy = false → undisturbed s = true →
          let dropped : State := sends (ok (txt "DR")) { s with
            records := s.records.filter (·.slot ≠ i)
            money := reversed (fun x => decide (x.slot = i ∧ x.charge = .provisional)) s.records s.money
            labels := { s.labels with spool := s.labels.spool.filter (·.slot ≠ i) }
            film := withRoll i none { s.film with
              state := if r.state = .camera then .noRoll else s.film.state
              flight := if r.state = .camera then none else s.film.flight
              told := if r.state = .camera then awaitsRoll s.film else s.film.told
              order := s.film.order.filter (· ≠ i) } }
          (r.isMounting = false → exec (.dr fields) s = .next dropped)
          ∧ (r.isMounting = true → FramesApart s → BalanceLaw s →
            ∃ t, HandsOver dropped t ∧ exec (.dr fields) s = .next t))

/-- An RS card (R147). It is refused FIELD with a field, and STATE in every transport state but FAULT(JAM),
SUSPENDED(SENSOR) and SUSPENDED(LOST), or when the condition of its state fails. Accepted after a jam or a roll end,
it starts the advance of the failed kind again, or is stopped by the roll end at once; after a loss of power it starts
a FRAME advance. A sequencer that waits inside a set on TRANSPORT is ADVANCING again. With a report delay of 0 the
reply stands before the EV card of the same event (the model's choice, log 10). -/
def Obligations.StoppedFilmRetried : Prop :=
  ∀ s : State, s.line.tx.length < 16 →
    let refused := exec (.rs []) s = .next (sends (noCard (txt "RS") [] .state) s)
    let ok := okCard (txt "RS") []
    let film (k : AdvanceKind) : Film := { s.film with
      state := if k = .frame then .advancing else .loading
      flight := some { kind := k, edge := s.stand.markEdge, left := s.stand.advanceTimeout * Config.ms } }
    let waits := s.seq.set.isSome = true ∧ s.seq.state = .setReady ∧ s.seq.wait = some .transport
    (∀ fields, fields ≠ [] → exec (.rs fields) s = .next (sends (noCard (txt "RS") [] .field) s))
    ∧ ((∀ k, s.film.state ≠ .faultJam k ∧ s.film.state ≠ .suspSensor k) → s.film.state ≠ .suspLost → refused)
    ∧ (s.inputs.door.debounced = true → ((∃ k, s.film.state = .faultJam k) ∨ s.film.state = .suspLost) → refused)
    ∧ (s.inputs.rollEnd.debounced = true → (∃ k, s.film.state = .suspSensor k) → refused)
    ∧ (∀ k, s.inputs.rollEnd.debounced = false →
        (s.film.state = .faultJam k ∧ s.inputs.door.debounced = false ∨ s.film.state = .suspSensor k) →
        (¬ waits → undisturbed s = true → exec (.rs []) s = .next (sends ok { s with film := film k }))
        ∧ (waits → k = .frame →
          exec (.rs []) s = .next (sends ok { s with film := film k, seq := { s.seq with state := .advancing, wait := none } })))
    ∧ (∀ k, s.inputs.rollEnd.debounced = true → s.inputs.door.debounced = false → s.film.state = .faultJam k → ¬ waits →
        undisturbed s = true →
        exec (.rs []) s = .next { s with
          film := { s.film with state := .suspSensor k }, line := raised s.stand [.roll] (lineSends ok s.line) })
    ∧ ∀ (i : Fin 4) (r : Roll), s.film.state = .suspLost → s.inputs.door.debounced = false →
        s.inputs.rollEnd.debounced = false → cameraSlot s.film = some i → s.film.rolls[i] = some r → r.next < r.capacity →
        ¬ waits → undisturbed s = true →
        exec (.rs []) s = .next (sends ok { s with film := film .frame })

/-! ### Frame map (spec/09) -/

/-- A KP card (R161, R162, R163) carries a roll number, a frame number and KEEP or NONE. It is refused FIELD; UNKNOWN
for a number no slot holds, or a frame with no record; STATE for a roll that is neither RETURNED nor MOUNTING; LATE
for a set with a label SPOOLED or PRINTED, and on a MOUNTING roll for a set whose head lies below the label cursor;
STATE for KEEP at a frame that is not EXPOSED. Accepted, it decides the frame's whole set: KEEP at that frame and
DISCARD elsewhere, or DISCARD throughout. On the MOUNTING roll the spool then feeds (R160, R175) and close-out is
checked, with the close-out and the hand-over when it holds (R164, R165). With a report delay of 0 the reply stands
before the EV card that names CLOSED (the model's choice, log 10). The reply's numbers are free values where the console
did not write them in plain decimal (log 1). -/
def Obligations.FrameDecided : Prop :=
  (∀ (fields : List Text) (n frame : Nat) (keep : Bool), keepFields fields = some (n, frame, keep) ↔
    ∃ f1 f2, fields = [f1, f2, if keep then txt "KEEP" else txt "NONE"] ∧ Spells f1 n ∧ 1 ≤ n ∧ n ≤ 9999
      ∧ Spells f2 frame ∧ 1 ≤ frame ∧ frame ≤ 800)
  ∧ ∀ (s : State) (fields : List Text), s.line.tx.length < 16 →
    let no (r : Reason) := Host.Outcome.next (sends (noCard (txt "KP") [fields.getD 0 [], fields.getD 1 []] r) s)
    (keepFields fields = none → exec (.kp fields) s = no .field)
    ∧ ∀ n frame keep, keepFields fields = some (n, frame, keep) →
      ((∀ i : Fin 4, (s.film.rolls[i]).map Roll.number ≠ some n) → exec (.kp fields) s = no .unknown)
      ∧ ∀ (i : Fin 4) (r : Roll), holdsRoll s.film n i r →
        ((r.state = .camera ∨ r.state = .away) → exec (.kp fields) s = no .state)
        ∧ ((r.state = .returned ∨ r.isMounting = true) →
          ((∀ x ∈ s.records, ¬ (x.slot = i ∧ x.frame = frame)) → exec (.kp fields) s = no .unknown)
          ∧ ∀ (before after : List Record) (x : Record), s.records = before ++ x :: after → x.slot = i → x.frame = frame →
            (∀ y ∈ before, ¬ (y.slot = i ∧ y.frame = frame)) →
            let late := (∃ y ∈ s.records, y.slot = i ∧ y.head = x.head ∧ y.label ≠ .none)
              ∨ ∃ cursor, r.state = .mounting cursor ∧ x.head < cursor
            (late → exec (.kp fields) s = no .late)
            ∧ (¬ late → keep = true → x.kind ≠ .exposed → exec (.kp fields) s = no .state)
            ∧ (¬ late → (keep = false ∨ x.kind = .exposed) →
              let decided : State := sends (okCard (txt "KP") [natKey (fields.getD 0 []) n, natKey (fields.getD 1 []) frame]) { s with
                records := s.records.map fun y =>
                  if y.slot = i ∧ y.head = x.head then
                    { y with decision := if keep = true ∧ y.frame = frame then .keep else .discard }
                  else y }
              (r.state = .returned → exec (.kp fields) s = .next decided)
              ∧ (mountingSlot s.film = some i → FramesApart s → BalanceLaw s → undisturbed s = true →
                ∃ t u, fed decided t ∧ closeChecked t u ∧ exec (.kp fields) s = .next u)))

/-! ### Labels and the label line (spec/10) -/

/-- The label line (R177 to R181, R184). A label's last CR starts the printer timeout. B in SENT starts the retry of 1
s; its end sends the head again, or leaves an empty spool READY. S and J stop the printer with STOCK_OUT and PRINTER;
so does silence, with PRINTER. R releases the feed hold in READY, here with no roll MOUNTING; with no feed hold it
sends the head again from RETRY and STOPPED, and changes nothing in SENT. An answer in any other state changes
nothing. The time a timer has left passes before its expiry (the model's choice, log 3). -/
def Obligations.LabelLine : Prop :=
  ∀ s : State,
    let at' (p : PrinterState) : Labels := { s.labels with printer := p, timeout := none }
    let awaited := s.labels.printer = .sent ∨ s.labels.printer = .stopped .silent
    let resent (l : Labels) : Labels :=
      match l.spool with
      | x :: _ => { l with printer := .sending, sending := labelChars x, timeout := none, retry := none }
      | [] => { l with printer := .ready, timeout := none, retry := none }
    (exec .labelSent s = .next (if s.labels.printer = .sending then { s with labels := { s.labels with
        printer := .sent, sending := [], timeout := some (s.stand.printerTimeout * 100 * Config.ms) } } else s))
    ∧ (exec .printerAnswerB s = .next (if s.labels.printer = .sent then { s with labels := { s.labels with
        printer := .retry, timeout := none, retry := some (1000 * Config.ms) } } else s))
    ∧ (awaited → exec .printerAnswerS s =
        .next { s with labels := at' (.stopped .stock), line := raised s.stand [.stockOut] s.line })
    ∧ (awaited → exec .printerAnswerJ s =
        .next { s with labels := at' (.stopped .jam), line := raised s.stand [.printer] s.line })
    ∧ (¬ awaited → exec .printerAnswerS s = .next s ∧ exec .printerAnswerJ s = .next s ∧ exec .printerAnswerA s = .next s)
    ∧ (s.labels.feedHold = false → (s.labels.printer = .sending ∨ s.labels.printer = .sent) →
        exec .printerAnswerR s = .next s)
    ∧ (s.labels.printer = .ready → mountingSlot s.film = none →
        exec .printerAnswerR s = .next { s with labels := { s.labels with feedHold := false } })
    ∧ (s.labels.feedHold = false → (s.labels.printer = .retry ∨ ∃ c, s.labels.printer = .stopped c) →
        exec .printerAnswerR s = .next { s with labels := resent s.labels })
    ∧ (∀ n, s.labels.retry = some n → s.labels.printer = .retry →
        exec .retryTimerExpiry s = .next { elapse n s with labels := resent (elapse n s).labels })
    ∧ (∀ n, s.labels.timeout = some n → s.labels.printer = .sent →
        exec .printerTimeoutExpiry s = .next { elapse n s with
          labels := { (elapse n s).labels with printer := .stopped .silent, timeout := none }
          line := raised s.stand [.printer] (elapse n s).line })

/-- The answer A accepts the head label (R164, R178, R196, R197): it leaves the spool, its frame is PRINTED, and its set's
copy fee is posted final, held at 999,999,999 with the saturated mark; close-out is checked, with the close-out of the
MOUNTING roll and the hand-over when it holds (R135, R165, R195); the printer is READY, its timeout stopped; the roll then
MOUNTING is fed unless the feed hold is on (R175, R183), and the next label is sent (R177). An empty spool, which no run
brings to SENT, is left as it is (log 22). In READY the answer R releases the feed hold, and the MOUNTING roll is fed
(R181, R184). -/
def Obligations.LabelAccepted : Prop :=
  (∀ s : State, (s.labels.printer = .sent ∨ s.labels.printer = .stopped .silent) → undisturbed s = true →
    (s.labels.spool = [] → exec .printerAnswerA s = .next s)
    ∧ ∀ (l : SpoolEntry) (rest : List SpoolEntry) (r d : Record) (data : SetHead),
      s.labels.spool = l :: rest → FramesApart s → BalanceLaw s → r ∈ s.records → r.slot = l.slot → r.frame = l.frame →
      r.label = .spooled → d ∈ s.records → d.slot = l.slot → d.head = r.head → d.data = some data →
      (∀ y ∈ s.records, y.slot = l.slot → y.head = r.head → y.data = none ∨ y = d) →
      let a := s.money.accounts[r.account]
      let paid : Account :=
        if a.final + data.copyFee ≤ 999999999 then { a with final := a.final + data.copyFee }
        else { a with final := 999999999, saturated := true }
      let accepted : State := { s with
        records := s.records.map fun y => if y.slot = l.slot ∧ y.frame = l.frame then { y with label := .printed } else y
        money := { s.money with accounts := s.money.accounts.set r.account paid }
        labels := { s.labels with spool := rest } }
      ∃ u w, closeChecked accepted u
        ∧ fed { u with labels := { u.labels with printer := .ready, timeout := none } } w
        ∧ exec .printerAnswerA s = .next (sentIfReady w))
  ∧ ∀ s : State, s.labels.printer = .ready → s.labels.feedHold = true → FramesApart s → undisturbed s = true →
    ∃ t, fed { s with labels := { s.labels with feedHold := false } } t ∧ exec .printerAnswerR s = .next t

/-! ### Accounts and tables (spec/11, and the tables' own chapters) -/

/-- An SE card (R198) carries an account code, four characters A–Z or 0–9: refused FIELD for what is no code, UNKNOWN
for a code no OPEN or CLOSED entry holds; otherwise the answer carries the final balance, and SATURATED if it is so
marked, and the balance becomes 0 with the mark off. -/
def Obligations.AccountSettled : Prop :=
  (∀ (fields : List Text) (code : Text), oneField codeField fields = some code ↔ fields = [code] ∧ code.length = 4
    ∧ ∀ c ∈ code, (65 ≤ c.toNat ∧ c.toNat ≤ 90) ∨ (48 ≤ c.toNat ∧ c.toNat ≤ 57))
  ∧ ∀ (s : State) (fields : List Text), s.line.tx.length < 16 →
    let no (r : Reason) := Host.Outcome.next (sends (noCard (txt "SE") [fields.getD 0 []] r) s)
    (oneField codeField fields = none → exec (.se fields) s = no .field)
    ∧ ∀ code, oneField codeField fields = some code →
      let holds (i : Fin 64) := (s.money.accounts[i]).state ≠ .free ∧ (s.money.accounts[i]).code = some code
      ((∀ i, ¬ holds i) → exec (.se fields) s = no .unknown)
      ∧ ∀ i, holds i → (∀ j, j < i → ¬ holds j) → undisturbed s = true →
        let a := s.money.accounts[i]
        exec (.se fields) s =
          .next (sends (anCard (txt "SE") [code] [dec a.final, if a.saturated then txt "SATURATED" else []]) { s with
            money := { s.money with accounts := s.money.accounts.set i { a with final := 0, saturated := false } } })

/-- The table writes (R11, R32, R61, R82, R85, R170, R186, R187, R190), QUEUE apart: an index or a field that is malformed
is refused FIELD; then the refusals of each table; an accepted write replaces the entry and is answered OK with the index.
Its first clauses say what a field's reader reads: the number form of R3 with its range, and field by field the entries of
R31, R41, R60, R82, R84, R170, R186 and R190, an empty field keeping the present value (R11).
Here nothing waits for what the write changes. The index in the reply is a free value where the console did not write it in
plain decimal (log 1). -/
def Obligations.TablesWritten : Prop :=
  (∀ (lo hi : Nat) (t : Text) (n : Nat), natField lo hi t = some n ↔ Spells t n ∧ lo ≤ n ∧ n ≤ hi)
  ∧ (∀ (n : Nat) (t : Text) (k : Fin n), finField n t = some k ↔ Spells t k.val)
  ∧ (∀ (old x : StandEntry) (fields : List Text), standFields old fields = some x ↔
    ∃ f1 f2 f3 f4 f5 f6 f7 f8 f9 f10 f11 f12 f13, fields = [f1, f2, f3, f4, f5, f6, f7, f8, f9, f10, f11, f12, f13]
      ∧ wroteNat f1 old.reportDelay x.reportDelay 0 255 ∧ wrote f2 (x.enables = old.enables) (enablesForm f2 x.enables)
      ∧ wrotePadded f3 old.date x.date 8
      ∧ wrote f4 (x.guardUnit = old.guardUnit) (Spells f4 x.guardUnit ∧ (x.guardUnit = 1 ∨ x.guardUnit = 10))
      ∧ wroteNat f5 old.guardLimit x.guardLimit 1 255 ∧ wroteNat f6 old.coolDown x.coolDown 0 255
      ∧ wroteNat f7 old.advanceTimeout x.advanceTimeout 100 5000 ∧ wroteWord f8 old.markEdge x.markEdge edgeWord
      ∧ wroteNat f9 old.printerTimeout x.printerTimeout 5 255 ∧ wroteWord f10 old.doorEdge x.doorEdge eventEdgeWord
      ∧ wroteWord f11 old.gateEdge x.gateEdge eventEdgeWord ∧ wroteWord f12 old.rollEndEdge x.rollEndEdge eventEdgeWord
      ∧ wroteWord f13 old.pauseEdge x.pauseEdge eventEdgeWord)
  ∧ (∀ (old x : QueueEntry) (fields : List Text), queueFields old fields = some x ↔
    ∃ f1 f2, fields = [f1, f2] ∧ wroteNat f1 old.capacity x.capacity 0 32 ∧ wroteWord f2 old.paused x.paused yesNo)
  ∧ (∀ (old x : MeterEntry) (fields : List Text), meterFields old fields = some x ↔
    ∃ f1 f2 f3 f4, fields = [f1, f2, f3, f4] ∧ wroteNat f1 old.refCount x.refCount 4096 4194304
      ∧ wroteNat f2 old.cal x.cal 8192 65535 ∧ wroteWord f3 old.base x.base timeBaseWord ∧ wroteNat f4 old.warmUp x.warmUp 0 255)
  ∧ (∀ (old x : StockEntry) (fields : List Text), stockFields old fields = some x ↔
    ∃ f1 f2 f3 f4 f5 f6, fields = [f1, f2, f3, f4, f5, f6] ∧ wrotePadded f1 old.name x.name 6
      ∧ wroteNat f2 old.base x.base 0 65535 ∧ wroteNat f3 old.knee x.knee 0 65535 ∧ wroteNat f4 old.slope x.slope 256 1024
      ∧ wroteWord f5 old.kind x.kind stockKindWord
      ∧ wrote f6 (x.tag = old.tag)
          (f6.length ≤ 3 ∧ x.tag.getLast? ≠ some ' ' ∧ ∃ n, f6 = x.tag ++ List.replicate n ' '))
  ∧ (∀ (old x : List Int) (fields : List Text), patternFields old fields = some x ↔
    ∃ f, fields = [f] ∧ wrote f (x = old)
      (1 ≤ x.length ∧ x.length ≤ 7 ∧ x.Nodup ∧ (∀ v ∈ x, -6 ≤ v ∧ v ≤ 6)
        ∧ ∃ ws : List Text, f = spaced ws ∧ ws.length = x.length ∧ ∀ p ∈ ws.zip x, Spells p.1 p.2))
  ∧ (∀ (old x : FormatEntry) (fields : List Text), formatFields old fields = some x ↔
    ∃ f1 f2 f3 f4 f5 l1 l2 l3 l4, fields = [f1, f2, f3, f4, f5] ∧ wroteNat f1 old.width x.width 12 32
      ∧ wrote f2 (l1 = old.lines[0]?) (lineForm f2 l1) ∧ wrote f3 (l2 = old.lines[1]?) (lineForm f3 l2)
      ∧ wrote f4 (l3 = old.lines[2]?) (lineForm f4 l3) ∧ wrote f5 (l4 = old.lines[3]?) (lineForm f5 l4)
      ∧ l1 ≠ none ∧ (l2 = none → l3 = none) ∧ (l3 = none → l4 = none) ∧ x.lines = [l1, l2, l3, l4].filterMap id)
  ∧ (∀ (old x : Account) (fields : List Text), accountFields old fields = some x ↔
    ∃ f1 f2 f3 f4 f5, fields = [f1, f2, f3, f4, f5]
      ∧ wrote f1 (x.code = old.code)
          (x.code = some f1 ∧ f1.length = 4 ∧ ∀ c ∈ f1, (65 ≤ c.toNat ∧ c.toNat ≤ 90) ∨ (48 ≤ c.toNat ∧ c.toNat ≤ 57))
      ∧ wrotePadded f2 old.name x.name 16 ∧ wrote f3 (x.rateClass = old.rateClass) (Spells f3 x.rateClass.val)
      ∧ wroteNat f4 old.ceiling x.ceiling 0 999999999 ∧ wroteWord f5 old.state x.state accountStateWord
      ∧ x.provisional = old.provisional ∧ x.final = old.final ∧ x.saturated = old.saturated)
  ∧ (∀ (old x : RateEntry) (fields : List Text), rateFields old fields = some x ↔
    ∃ f1 f2, fields = [f1, f2] ∧ wroteNat f1 old.frameFee x.frameFee 0 9999 ∧ wroteNat f2 old.copyFee x.copyFee 0 9999)
  ∧ ∀ (s : State) (index : Text) (fields : List Text), s.line.tx.length < 16 →
    let no (name : Text) (r : Reason) := Host.Outcome.next (sends (noCard (txt "TB") [name, index] r) s)
    let ok (name : Text) (i : Nat) := okCard (txt "TB") [name, natKey index i]
    let card := index :: fields
    (finField 1 index = none → exec (.tbStand card) s = no (txt "STAND") .field ∧ exec (.tbMeter card) s = no (txt "METER") .field)
    ∧ (finField 4 index = none → exec (.tbRate card) s = no (txt "RATE") .field)
    ∧ (finField 8 index = none → exec (.tbStock card) s = no (txt "STOCK") .field
        ∧ exec (.tbFormat card) s = no (txt "FORMAT") .field ∧ exec (.tbQueue card) s = no (txt "QUEUE") .field)
    ∧ (finField 16 index = none → exec (.tbPattern card) s = no (txt "PATTERN") .field)
    ∧ (finField 64 index = none → exec (.tbAccount card) s = no (txt "ACCOUNT") .field)
    ∧ (finField 1 index = some 0 →
      (standFields s.stand fields = none → exec (.tbStand card) s = no (txt "STAND") .field)
      ∧ (meterFields s.meter.entry fields = none → exec (.tbMeter card) s = no (txt "METER") .field)
      ∧ (∀ x, standFields s.stand fields = some x →
        let limit := x.guardLimit * x.guardUnit * 1000
        (limit < s.meter.entry.warmUp * 10 + 1000 → exec (.tbStand card) s = no (txt "STAND") .field)
        ∧ (s.meter.entry.warmUp * 10 + 1000 ≤ limit →
          (x.guardLimit = s.stand.guardLimit ∧ x.guardUnit = s.stand.guardUnit ∨ s.lamp.state = .off ∨ s.lamp.state = .cooling
            ∨ s.lamp.lit / Config.ms < limit) → undisturbed s = true →
          exec (.tbStand card) s = .next (sends (ok (txt "STAND") 0) { s with stand := x })))
      ∧ ∀ x, meterFields s.meter.entry fields = some x →
        let short := s.stand.guardLimit * s.stand.guardUnit * 1000 < x.warmUp * 10 + 1000
        (short → exec (.tbMeter card) s = no (txt "METER") .field)
        ∧ (¬ short → x ≠ s.meter.entry → s.modes.current ≠ .setup → exec (.tbMeter card) s = no (txt "METER") .mode)
        ∧ (¬ short → x ≠ s.meter.entry → s.modes.current = .setup → s.meter.calibrating = true →
            exec (.tbMeter card) s = no (txt "METER") .busy)
        ∧ (¬ short → (x = s.meter.entry ∧ undisturbed s = true ∨ s.modes.current = .setup ∧ s.meter.calibrating = false) →
            exec (.tbMeter card) s = .next (sends (ok (txt "METER") 0) { s with meter := { s.meter with entry := x } })))
    ∧ (∀ i : Fin 8, finField 8 index = some i →
      let old := s.tables.stock[i]
      let onCamera := ((cameraSlot s.film).bind fun j => (s.film.rolls[j]).map Roll.stock) = some i
      let named := someSlip s (·.stock = i) ∨ onCamera
      (stockFields old fields = none → exec (.tbStock card) s = no (txt "STOCK") .field)
      ∧ (formatFields s.labels.formats[i] fields = none → exec (.tbFormat card) s = no (txt "FORMAT") .field)
      ∧ (∀ x, stockFields old fields = some x →
        (x.base = 0 ∧ named ∨ x.kind ≠ old.kind ∧ onCamera → exec (.tbStock card) s = no (txt "STOCK") .busy)
        ∧ (¬ (x.base = 0 ∧ named) → ¬ (x.kind ≠ old.kind ∧ onCamera) → undisturbed s = true →
          exec (.tbStock card) s =
            .next (sends (ok (txt "STOCK") i) { s with tables := { s.tables with stock := s.tables.stock.set i x } })))
      ∧ ∀ x, formatFields s.labels.formats[i] fields = some x → undisturbed s = true →
        exec (.tbFormat card) s =
          .next (sends (ok (txt "FORMAT") i) { s with labels := { s.labels with formats := s.labels.formats.set i x } }))
    ∧ (∀ i : Fin 16, finField 16 index = some i →
      (patternFields s.tables.pattern[i] fields = none → exec (.tbPattern card) s = no (txt "PATTERN") .field)
      ∧ ∀ x, patternFields s.tables.pattern[i] fields = some x → undisturbed s = true →
        exec (.tbPattern card) s =
          .next (sends (ok (txt "PATTERN") i) { s with tables := { s.tables with pattern := s.tables.pattern.set i x } }))
    ∧ (∀ i : Fin 4, finField 4 index = some i →
      (rateFields s.money.rates[i] fields = none → exec (.tbRate card) s = no (txt "RATE") .field)
      ∧ ∀ x, rateFields s.money.rates[i] fields = some x → undisturbed s = true →
        exec (.tbRate card) s =
          .next (sends (ok (txt "RATE") i) { s with money := { s.money with rates := s.money.rates.set i x } }))
    ∧ ∀ i : Fin 64, finField 64 index = some i →
      let old := s.money.accounts[i]
      (accountFields old fields = none → exec (.tbAccount card) s = no (txt "ACCOUNT") .field)
      ∧ ∀ x, accountFields old fields = some x →
        let inUse := someSlip s (·.account = i) ∨ (∃ r ∈ s.records, r.account = i) ∨ old.provisional ≠ 0 ∨ old.final ≠ 0
        let nameless := x.state ≠ .free ∧ x.code = none
        let held := (x.code ≠ old.code ∨ x.state = .free ∧ old.state ≠ .free) ∧ inUse
        let twice := x.state ≠ .free ∧ ∃ j : Fin 64, j ≠ i ∧ (s.money.accounts[j]).state ≠ .free
          ∧ (s.money.accounts[j]).code = x.code
        (nameless → exec (.tbAccount card) s = no (txt "ACCOUNT") .field)
        ∧ (¬ nameless → held → exec (.tbAccount card) s = no (txt "ACCOUNT") .busy)
        ∧ (¬ nameless → ¬ held → twice → exec (.tbAccount card) s = no (txt "ACCOUNT") .duplicate)
        ∧ (¬ nameless → ¬ held → ¬ twice → undisturbed s = true →
          (x.provisional = old.provisional ∧ x.final = old.final ∧ x.saturated = old.saturated)
          ∧ exec (.tbAccount card) s =
            .next (sends (ok (txt "ACCOUNT") i) { s with money := { s.money with accounts := s.money.accounts.set i x } }))

/-! ### Queries (R12) -/

/-- What the arguments of QY FRAMES are, and of a query with one number (R12). What each query answers, and that
nothing changes but the transmit queue, and what QY COUNTERS, QY INPUTS and QY ENDED clear (R12, R18, R21, R43, R46,
R56, R57, R115, R132, R136, R167, R199). An argument too many or one that is malformed is refused FIELD, a subject
that is nowhere UNKNOWN. That QY ACCOUNT refuses FIELD an argument of fewer than four characters, or with another character
than A–Z and 0–9, is the model's reading (log 29). A number among the answer's keys is a free value where the console did not write it in plain
decimal (log 1). -/
def Obligations.QueriesAnswered : Prop :=
  (∀ (fields : List Text) (lo hi n : Nat), oneField (natField lo hi) fields = some n ↔
    ∃ f, fields = [f] ∧ Spells f n ∧ lo ≤ n ∧ n ≤ hi)
  ∧ (∀ (fields : List Text) (n lo hi : Nat), framesArgs fields = some (n, lo, hi) ↔
    ∃ f1 f2 f3, fields = [f1, f2, f3] ∧ Spells f1 n ∧ 1 ≤ n ∧ n ≤ 9999 ∧ Spells f2 lo ∧ 1 ≤ lo ∧ Spells f3 hi ∧ lo ≤ hi
      ∧ hi ≤ 800)
  ∧ ∀ s : State, s.line.tx.length < 16 →
    let an (key answer : List Text) := Host.Outcome.next (sends (anCard (txt "QY") key answer) s)
    let also (u : State) (subject : Text) (answer : List Text) := Host.Outcome.next (sends (anCard (txt "QY") [subject] answer) u)
    (exec (.qyMode []) s =
      an [txt "MODE"] [modeWord s.modes.requested, modeWord s.modes.current, changeWord s.modes.change])
    ∧ (exec (.qyCurrent []) s = an [txt "CURRENT"]
        [seqStateWord s.seq.state, waitWord s.seq.wait, optText (s.seq.slip.map fun c => dec c.slip.number),
         optText (s.seq.slip.map fun c => dec c.copy), optText (s.seq.set.map fun x => dec x.step)])
    ∧ (exec (.qyEvents []) s = an [txt "EVENTS"]
        (s.line.flags.map flagWord ++ reportWord s.line.report
          :: (Flag.all.filter (· ∉ s.stand.enables)).map fun f => '-' :: flagWord f))
    ∧ (exec (.qyCounters []) s =
        also { s with store := { s.store with unknownAccount := 0, queueFull := 0 } } (txt "COUNTERS")
          [dec s.store.unknownAccount, dec s.store.queueFull])
    ∧ (let line (l : InputLine) := [levelWord l.debounced, if l.edgeSeen then txt "EDGE" else []]
       let i := s.inputs
       exec (.qyInputs []) s =
        also { s with inputs := {
            door := { i.door with edgeSeen := false }, gate := { i.gate with edgeSeen := false },
            rollEnd := { i.rollEnd with edgeSeen := false }, mark := { i.mark with edgeSeen := false },
            pause := { i.pause with edgeSeen := false } } } (txt "INPUTS")
          (line i.door ++ line i.gate ++ line i.rollEnd ++ line i.mark ++ line i.pause))
    ∧ (exec (.qyEnded []) s =
        also { s with store := { s.store with ended := s.store.ended.drop 8 } } (txt "ENDED")
          ((s.store.ended.take 8).flatMap (fun c => [dec c.slip, endingWord c.ending, dec c.made, dec c.incomplete])
            ++ [dec (s.store.ended.length - 8)]))
    ∧ (∀ args, args ≠ [] →
        let no (subject : Text) := Host.Outcome.next (sends (noCard (txt "QY") [subject] .field) s)
        exec (.qyMode args) s = no (txt "MODE") ∧ exec (.qyCurrent args) s = no (txt "CURRENT")
          ∧ exec (.qyEvents args) s = no (txt "EVENTS") ∧ exec (.qyCounters args) s = no (txt "COUNTERS")
          ∧ exec (.qyInputs args) s = no (txt "INPUTS") ∧ exec (.qyEnded args) s = no (txt "ENDED"))
    ∧ ∀ args : List Text,
      let a := args.getD 0 []
      let no (subject : Text) (r : Reason) := Host.Outcome.next (sends (noCard (txt "QY") [subject, a] r) s)
      (oneField (finField 8) args = none → exec (.qyQueue args) s = no (txt "QUEUE") .field)
      ∧ (∀ k, oneField (finField 8) args = some k →
        let cap := (s.store.table[k]).capacity
        let count := (s.store.rings[k]).slips.length
        exec (.qyQueue args) s = an [txt "QUEUE", natKey a k.val]
          [dec cap, dec count, if cap = 0 then [] else dec (s.store.rings[k]).head, yesNo (s.store.table[k]).paused,
           if 1 ≤ count then txt "NONEMPTY" else [], if 1 ≤ cap ∧ cap ≤ 2 * count then txt "HALF" else [],
           if 1 ≤ cap ∧ count = cap then txt "FULL" else [], if s.store.overflowed[k] then txt "OVERFLOWED" else []])
      ∧ (oneField (natField 1 65535) args = none → exec (.qySlip args) s = no (txt "SLIP") .field)
      ∧ (∀ n, oneField (natField 1 65535) args = some n →
        let rest (c : Slip) := [optText (s.money.accounts[c.account]).code, dec c.queue.val, c.catalog, optText c.title,
          dec c.copies, dec c.stock.val, dec c.pattern.val, dec c.format.val, optText (c.density.map dec)]
        (n ∉ slipNumbers s → exec (.qySlip args) s = no (txt "SLIP") .unknown)
        ∧ (∀ (k : Fin 8) (before after : List Slip) (c : Slip), NumbersLaw s → (s.store.rings[k]).slips = before ++ c :: after → c.number = n →
          exec (.qySlip args) s = an [txt "SLIP", natKey a n]
            ([dec k.val, dec (before.length + 1)] ++ rest c ++ [txt "NO"]))
        ∧ (∀ c : Current, NumbersLaw s → s.seq.slip = some c → c.slip.number = n →
          exec (.qySlip args) s = an [txt "SLIP", natKey a n]
            ([txt "CURRENT", []] ++ rest c.slip ++ [yesNo c.slip.cancelPending])))
      ∧ (oneField (natField 1 9999) args = none → exec (.qyRoll args) s = no (txt "ROLL") .field)
      ∧ (∀ n, oneField (natField 1 9999) args = some n →
        ((∀ i : Fin 4, (s.film.rolls[i]).map Roll.number ≠ some n) → exec (.qyRoll args) s = no (txt "ROLL") .unknown)
        ∧ ∀ (i : Fin 4) (r : Roll), holdsRoll s.film n i r →
          let fixed := [dec i.val, rollStateWord r.state, dec r.stock.val, dec r.capacity, dec r.next,
            if r.fogged then txt "FOGGED" else []]
          exec (.qyRoll args) s = an [txt "ROLL", natKey a n] (fixed ++
            match r.state with
            | .camera => [filmWord s.film.state, filmCauseWord s.film.state, [], []]
            | .away => [[], [], [], []]
            | .returned => [[], [], dec (s.film.order.idxOf i + 1), []]
            | .mounting cursor => [[], [], [], dec cursor]))
      ∧ (oneField codeField args = none → exec (.qyAccount args) s = no (txt "ACCOUNT") .field)
      ∧ (∀ code, oneField codeField args = some code →
        let holds (i : Fin 64) := (s.money.accounts[i]).state ≠ .free ∧ (s.money.accounts[i]).code = some code
        ((∀ i, ¬ holds i) → exec (.qyAccount args) s = no (txt "ACCOUNT") .unknown)
        ∧ ∀ i, holds i → (∀ j, j < i → ¬ holds j) →
          let x := s.money.accounts[i]
          exec (.qyAccount args) s = an [txt "ACCOUNT", code]
            [dec i.val, x.name, dec x.rateClass.val, dec x.ceiling, accountStateWord x.state, dec x.provisional, dec x.final,
             if x.saturated then txt "SATURATED" else []])
      ∧ (∀ n lo hi, framesArgs args = some (n, lo, hi) → ∀ (i : Fin 4) (r : Roll), holdsRoll s.film n i r →
        let found := s.records.filter fun x => decide (x.slot = i ∧ lo ≤ x.frame ∧ x.frame ≤ hi)
        let texts (x : Record) : List Text :=
          [dec x.frame, frameKindWord x.kind, dec x.slip, optText (s.money.accounts[x.account]).code, dec x.copy, dec x.copies,
            dec x.head, dec x.step, stepText x.bracket, dec x.time,
            spaced ((if x.marks.overdense then [txt "OVERDENSE"] else []) ++ (if x.marks.underdense then [txt "UNDERDENSE"] else [])
              ++ (if x.marks.clampLow then [txt "CLAMP_LOW"] else []) ++ (if x.marks.clampHigh then [txt "CLAMP_HIGH"] else [])
              ++ if x.marks.clampGuard then [txt "CLAMP_GUARD"] else []),
            dec x.fee, decisionWord x.decision, labelStateWord x.label, chargeWord x.charge]
          ++ match x.data with
            | some d => [statusWord d.status, d.catalog, d.title.getD [], dec d.format.val, d.tag, dec d.copyFee]
            | none => [[], [], [], [], [], []]
        exec (.qyFrames args) s =
          an [txt "FRAMES", natKey a n, natKey (args.getD 1 []) lo, natKey (args.getD 2 []) hi]
            ((found.take 8).flatMap texts
              ++ [match found.drop 8 with | [] => [] | x :: _ => dec x.frame]))
      ∧ (∀ n lo hi, framesArgs args = some (n, lo, hi) → (∀ i : Fin 4, (s.film.rolls[i]).map Roll.number ≠ some n) →
        exec (.qyFrames args) s = .next (sends (noCard (txt "QY") [txt "FRAMES", a, args.getD 1 [], args.getD 2 []] .unknown) s))
      ∧ (a ∉ [txt "STAND", txt "QUEUE", txt "METER", txt "STOCK", txt "PATTERN", txt "FORMAT", txt "ACCOUNT", txt "RATE",
          txt "DENSITY", txt "BRACKET"] →
        exec (.qyTable args) s = .next (sends (noCard (txt "QY") [txt "TABLE", a, args.getD 1 []] .field) s))
      ∧ (framesArgs args = none →
        exec (.qyFrames args) s = .next (sends (noCard (txt "QY") [txt "FRAMES", a, args.getD 1 [], args.getD 2 []] .field) s))
      ∧ (let entry (name : Text) (n : Nat) (answer : Fin n → List Text) : Prop := ∀ (i : Fin n) (t : Text),
            (finField n t = some i → exec (.qyTable [name, t]) s = an [txt "TABLE", name, natKey t i.val] (answer i))
              ∧ (finField n t = none →
                exec (.qyTable [name, t]) s = .next (sends (noCard (txt "QY") [txt "TABLE", name, t] .field) s))
         let word (b : Bool) (w : String) : Text := if b then txt w else []
         let x := s.stand
         let off := Flag.all.filter (· ∉ x.enables)
         entry (txt "STAND") 1 (fun _ =>
            [dec x.reportDelay,
             if off = [] then txt "ALL" else if x.enables = [] then txt "NONE"
               else spaced (txt "ALL" :: off.map fun f => '-' :: flagWord f),
             x.date, dec x.guardUnit, dec x.guardLimit, dec x.coolDown, dec x.advanceTimeout, edgeWord x.markEdge,
             dec x.printerTimeout, eventEdgeWord x.doorEdge, eventEdgeWord x.gateEdge, eventEdgeWord x.rollEndEdge,
             eventEdgeWord x.pauseEdge])
          ∧ entry (txt "QUEUE") 8 (fun i => [dec (s.store.table[i]).capacity, yesNo (s.store.table[i]).paused])
          ∧ entry (txt "METER") 1 (fun _ => [dec s.meter.entry.refCount, dec s.meter.entry.cal, timeBaseWord s.meter.entry.base,
              dec s.meter.entry.warmUp])
          ∧ entry (txt "STOCK") 8 (fun i =>
              let y := s.tables.stock[i]
              [y.name, dec y.base, dec y.knee, dec y.slope, stockKindWord y.kind, y.tag])
          ∧ entry (txt "PATTERN") 16 (fun i => [spaced ((s.tables.pattern[i]).map stepText)])
          ∧ entry (txt "FORMAT") 8 (fun i =>
              let y := s.labels.formats[i]
              [dec y.width, lineShown y.lines[0]?, lineShown y.lines[1]?, lineShown y.lines[2]?, lineShown y.lines[3]?])
          ∧ entry (txt "ACCOUNT") 64 (fun i =>
              let y := s.money.accounts[i]
              [y.code.getD [], y.name, dec y.rateClass.val, dec y.ceiling, accountStateWord y.state, dec y.provisional,
               dec y.final, word y.saturated "SATURATED"])
          ∧ entry (txt "RATE") 4 (fun i => [dec (s.money.rates[i]).frameFee, dec (s.money.rates[i]).copyFee]))

/-! ### Laws of the part -/

/-- The shutter opens only in an event that leaves all five exposure conditions holding: the lamp LIT, the mode RUN, the
transport READY, the door closed and a slide in the gate (R126). And every step keeps the law of R126: while the shutter
is OPEN the five conditions hold, with the sequencer EXPOSING inside a set, the lamp its own and no advance in flight
(with what keeps it, `ShutterLaw`, and the law of the lamp). -/
def Obligations.ShutterOpensOnlyWhenFit : Prop :=
  (∀ (c : Instr) (s t : State), exec c s = .next t → s.shutter.opened = false → t.shutter.opened = true →
    t.lamp.state = .lit ∧ t.modes.current = .run ∧ t.film.state = .ready ∧ t.inputs.door.debounced = false
      ∧ t.inputs.gate.debounced = true)
  ∧ ∀ s t : State, LampLaw s → ShutterLaw s → step s = .next t → ShutterLaw t

/-- No step takes a collection past its capacity (R6, R9, R55, R153, R173). -/
def Obligations.CapacityKept : Prop :=
  ∀ s t : State, WithinCapacity s → step s = .next t → WithinCapacity t

/-- Every step keeps the law of the slip store: no queue above its capacity, the capacities within 96 (R42). -/
def Obligations.StoreLawKept : Prop :=
  ∀ s t : State, StoreLaw s → step s = .next t → StoreLaw t

/-- Every step keeps slip numbers apart: none twice in the store and the current slip (R36). -/
def Obligations.NumbersLawKept : Prop :=
  ∀ s t : State, NumbersLaw s → step s = .next t → NumbersLaw t

/-- Every step keeps the law of the lamp: never LIT or WARMING while its cool-down runs (R122), its warm-up timer running
in WARMING alone. -/
def Obligations.LampLawKept : Prop :=
  ∀ s t : State, LampLaw s → step s = .next t → LampLaw t

/-- Every step keeps the order of the frame map (R153), and the law of the balances: each account's provisional balance is
the sum of the fees of its PROVISIONAL records (R193), and no final balance passes 999,999,999 (R197). -/
def Obligations.MoneyLawKept : Prop :=
  (∀ s t : State, MapOrdered s → step s = .next t → MapOrdered t)
  ∧ ∀ s t : State, ProvisionalLaw s → BalanceLaw s → step s = .next t → ProvisionalLaw t ∧ BalanceLaw t

/-- The laws hold right after reset: the cell start of R29 and R30, with the model's values where no rule gives one (log
4). -/
def Obligations.ResetMeetsLaws : Prop :=
  WithinCapacity State.reset ∧ StoreLaw State.reset ∧ NumbersLaw State.reset ∧ LampLaw State.reset ∧ ShutterLaw State.reset
    ∧ MapOrdered State.reset ∧ ProvisionalLaw State.reset ∧ BalanceLaw State.reset
end

