-- ==== Sys2Proof/Laws/State.lean ====
section
/-! SUPPORT. What each named update of an event does to its state and to its marks: one lemma per update and field,
true by `rfl`, so that no proof unfolds a record update. The lemmas about marks are written `(rfl)`, which
lets `simp` discharge the premises of the lemmas of Laws/Finish.lean with them. -/

namespace Sys2Proof.Machine

@[simp] theorem begin_toState (s : State) : s.begin.toState = s := rfl
@[simp] theorem begin_step (s : State) : s.begin.step = false := (rfl)
@[simp] theorem begin_go (s : State) : s.begin.go = false := (rfl)
@[simp] theorem begin_wake (s : State) : s.begin.wake = false := (rfl)
@[simp] theorem begin_arb (s : State) : s.begin.arb = false := (rfl)
@[simp] theorem begin_ring (s : State) : s.begin.ring = false := (rfl)

@[simp] theorem Event.setLine_toState (e : Event) (x : LineState) : (e.setLine x).toState = { e.toState with line := x } := rfl
@[simp] theorem Event.setLine_step (e : Event) (x : LineState) : (e.setLine x).step = e.step := (rfl)
@[simp] theorem Event.setLine_go (e : Event) (x : LineState) : (e.setLine x).go = e.go := (rfl)
@[simp] theorem Event.setLine_wake (e : Event) (x : LineState) : (e.setLine x).wake = e.wake := (rfl)
@[simp] theorem Event.setLine_arb (e : Event) (x : LineState) : (e.setLine x).arb = e.arb := (rfl)
@[simp] theorem Event.setLine_ring (e : Event) (x : LineState) : (e.setLine x).ring = e.ring := (rfl)

@[simp] theorem Event.setModes_toState (e : Event) (x : Modes) : (e.setModes x).toState = { e.toState with modes := x } := rfl
@[simp] theorem Event.setModes_step (e : Event) (x : Modes) : (e.setModes x).step = e.step := (rfl)
@[simp] theorem Event.setModes_go (e : Event) (x : Modes) : (e.setModes x).go = e.go := (rfl)
@[simp] theorem Event.setModes_wake (e : Event) (x : Modes) : (e.setModes x).wake = e.wake := (rfl)
@[simp] theorem Event.setModes_arb (e : Event) (x : Modes) : (e.setModes x).arb = e.arb := (rfl)
@[simp] theorem Event.setModes_ring (e : Event) (x : Modes) : (e.setModes x).ring = e.ring := (rfl)

@[simp] theorem Event.setStand_toState (e : Event) (x : StandEntry) : (e.setStand x).toState = { e.toState with stand := x } := rfl
@[simp] theorem Event.setStand_step (e : Event) (x : StandEntry) : (e.setStand x).step = e.step := (rfl)
@[simp] theorem Event.setStand_go (e : Event) (x : StandEntry) : (e.setStand x).go = e.go := (rfl)
@[simp] theorem Event.setStand_wake (e : Event) (x : StandEntry) : (e.setStand x).wake = e.wake := (rfl)
@[simp] theorem Event.setStand_arb (e : Event) (x : StandEntry) : (e.setStand x).arb = e.arb := (rfl)
@[simp] theorem Event.setStand_ring (e : Event) (x : StandEntry) : (e.setStand x).ring = e.ring := (rfl)

@[simp] theorem Event.setStore_toState (e : Event) (x : Store) : (e.setStore x).toState = { e.toState with store := x } := rfl
@[simp] theorem Event.setStore_step (e : Event) (x : Store) : (e.setStore x).step = e.step := (rfl)
@[simp] theorem Event.setStore_go (e : Event) (x : Store) : (e.setStore x).go = e.go := (rfl)
@[simp] theorem Event.setStore_wake (e : Event) (x : Store) : (e.setStore x).wake = e.wake := (rfl)
@[simp] theorem Event.setStore_arb (e : Event) (x : Store) : (e.setStore x).arb = e.arb := (rfl)
@[simp] theorem Event.setStore_ring (e : Event) (x : Store) : (e.setStore x).ring = e.ring := (rfl)

@[simp] theorem Event.setMeter_toState (e : Event) (x : Meter) : (e.setMeter x).toState = { e.toState with meter := x } := rfl
@[simp] theorem Event.setMeter_step (e : Event) (x : Meter) : (e.setMeter x).step = e.step := (rfl)
@[simp] theorem Event.setMeter_go (e : Event) (x : Meter) : (e.setMeter x).go = e.go := (rfl)
@[simp] theorem Event.setMeter_wake (e : Event) (x : Meter) : (e.setMeter x).wake = e.wake := (rfl)
@[simp] theorem Event.setMeter_arb (e : Event) (x : Meter) : (e.setMeter x).arb = e.arb := (rfl)
@[simp] theorem Event.setMeter_ring (e : Event) (x : Meter) : (e.setMeter x).ring = e.ring := (rfl)

@[simp] theorem Event.setTables_toState (e : Event) (x : Tables) : (e.setTables x).toState = { e.toState with tables := x } := rfl
@[simp] theorem Event.setTables_step (e : Event) (x : Tables) : (e.setTables x).step = e.step := (rfl)
@[simp] theorem Event.setTables_go (e : Event) (x : Tables) : (e.setTables x).go = e.go := (rfl)
@[simp] theorem Event.setTables_wake (e : Event) (x : Tables) : (e.setTables x).wake = e.wake := (rfl)
@[simp] theorem Event.setTables_arb (e : Event) (x : Tables) : (e.setTables x).arb = e.arb := (rfl)
@[simp] theorem Event.setTables_ring (e : Event) (x : Tables) : (e.setTables x).ring = e.ring := (rfl)

@[simp] theorem Event.setSeq_toState (e : Event) (x : Seq) : (e.setSeq x).toState = { e.toState with seq := x } := rfl
@[simp] theorem Event.setSeq_step (e : Event) (x : Seq) : (e.setSeq x).step = e.step := (rfl)
@[simp] theorem Event.setSeq_go (e : Event) (x : Seq) : (e.setSeq x).go = e.go := (rfl)
@[simp] theorem Event.setSeq_wake (e : Event) (x : Seq) : (e.setSeq x).wake = e.wake := (rfl)
@[simp] theorem Event.setSeq_arb (e : Event) (x : Seq) : (e.setSeq x).arb = e.arb := (rfl)
@[simp] theorem Event.setSeq_ring (e : Event) (x : Seq) : (e.setSeq x).ring = e.ring := (rfl)

@[simp] theorem Event.setLamp_toState (e : Event) (x : Lamp) : (e.setLamp x).toState = { e.toState with lamp := x } := rfl
@[simp] theorem Event.setLamp_step (e : Event) (x : Lamp) : (e.setLamp x).step = e.step := (rfl)
@[simp] theorem Event.setLamp_go (e : Event) (x : Lamp) : (e.setLamp x).go = e.go := (rfl)
@[simp] theorem Event.setLamp_wake (e : Event) (x : Lamp) : (e.setLamp x).wake = e.wake := (rfl)
@[simp] theorem Event.setLamp_arb (e : Event) (x : Lamp) : (e.setLamp x).arb = e.arb := (rfl)
@[simp] theorem Event.setLamp_ring (e : Event) (x : Lamp) : (e.setLamp x).ring = e.ring := (rfl)

@[simp] theorem Event.setShutter_toState (e : Event) (x : Shutter) : (e.setShutter x).toState = { e.toState with shutter := x } := rfl
@[simp] theorem Event.setShutter_step (e : Event) (x : Shutter) : (e.setShutter x).step = e.step := (rfl)
@[simp] theorem Event.setShutter_go (e : Event) (x : Shutter) : (e.setShutter x).go = e.go := (rfl)
@[simp] theorem Event.setShutter_wake (e : Event) (x : Shutter) : (e.setShutter x).wake = e.wake := (rfl)
@[simp] theorem Event.setShutter_arb (e : Event) (x : Shutter) : (e.setShutter x).arb = e.arb := (rfl)
@[simp] theorem Event.setShutter_ring (e : Event) (x : Shutter) : (e.setShutter x).ring = e.ring := (rfl)

@[simp] theorem Event.setInputs_toState (e : Event) (x : Inputs) : (e.setInputs x).toState = { e.toState with inputs := x } := rfl
@[simp] theorem Event.setInputs_step (e : Event) (x : Inputs) : (e.setInputs x).step = e.step := (rfl)
@[simp] theorem Event.setInputs_go (e : Event) (x : Inputs) : (e.setInputs x).go = e.go := (rfl)
@[simp] theorem Event.setInputs_wake (e : Event) (x : Inputs) : (e.setInputs x).wake = e.wake := (rfl)
@[simp] theorem Event.setInputs_arb (e : Event) (x : Inputs) : (e.setInputs x).arb = e.arb := (rfl)
@[simp] theorem Event.setInputs_ring (e : Event) (x : Inputs) : (e.setInputs x).ring = e.ring := (rfl)

@[simp] theorem Event.setFilm_toState (e : Event) (x : Film) : (e.setFilm x).toState = { e.toState with film := x } := rfl
@[simp] theorem Event.setFilm_step (e : Event) (x : Film) : (e.setFilm x).step = e.step := (rfl)
@[simp] theorem Event.setFilm_go (e : Event) (x : Film) : (e.setFilm x).go = e.go := (rfl)
@[simp] theorem Event.setFilm_wake (e : Event) (x : Film) : (e.setFilm x).wake = true := (rfl)
@[simp] theorem Event.setFilm_arb (e : Event) (x : Film) : (e.setFilm x).arb = e.arb := (rfl)
@[simp] theorem Event.setFilm_ring (e : Event) (x : Film) : (e.setFilm x).ring = e.ring := (rfl)

@[simp] theorem Event.setRecords_toState (e : Event) (x : List Record) : (e.setRecords x).toState = { e.toState with records := x } := rfl
@[simp] theorem Event.setRecords_step (e : Event) (x : List Record) : (e.setRecords x).step = e.step := (rfl)
@[simp] theorem Event.setRecords_go (e : Event) (x : List Record) : (e.setRecords x).go = e.go := (rfl)
@[simp] theorem Event.setRecords_wake (e : Event) (x : List Record) : (e.setRecords x).wake = e.wake := (rfl)
@[simp] theorem Event.setRecords_arb (e : Event) (x : List Record) : (e.setRecords x).arb = e.arb := (rfl)
@[simp] theorem Event.setRecords_ring (e : Event) (x : List Record) : (e.setRecords x).ring = e.ring := (rfl)

@[simp] theorem Event.setLabels_toState (e : Event) (x : Labels) : (e.setLabels x).toState = { e.toState with labels := x } := rfl
@[simp] theorem Event.setLabels_step (e : Event) (x : Labels) : (e.setLabels x).step = e.step := (rfl)
@[simp] theorem Event.setLabels_go (e : Event) (x : Labels) : (e.setLabels x).go = e.go := (rfl)
@[simp] theorem Event.setLabels_wake (e : Event) (x : Labels) : (e.setLabels x).wake = e.wake := (rfl)
@[simp] theorem Event.setLabels_arb (e : Event) (x : Labels) : (e.setLabels x).arb = e.arb := (rfl)
@[simp] theorem Event.setLabels_ring (e : Event) (x : Labels) : (e.setLabels x).ring = e.ring := (rfl)

@[simp] theorem Event.setMoney_toState (e : Event) (x : Money) : (e.setMoney x).toState = { e.toState with money := x } := rfl
@[simp] theorem Event.setMoney_step (e : Event) (x : Money) : (e.setMoney x).step = e.step := (rfl)
@[simp] theorem Event.setMoney_go (e : Event) (x : Money) : (e.setMoney x).go = e.go := (rfl)
@[simp] theorem Event.setMoney_wake (e : Event) (x : Money) : (e.setMoney x).wake = e.wake := (rfl)
@[simp] theorem Event.setMoney_arb (e : Event) (x : Money) : (e.setMoney x).arb = e.arb := (rfl)
@[simp] theorem Event.setMoney_ring (e : Event) (x : Money) : (e.setMoney x).ring = e.ring := (rfl)

@[simp] theorem Event.woken_toState (e : Event) : e.woken.toState = e.toState := rfl
@[simp] theorem Event.woken_step (e : Event) : e.woken.step = e.step := (rfl)
@[simp] theorem Event.woken_go (e : Event) : e.woken.go = e.go := (rfl)
@[simp] theorem Event.woken_wake (e : Event) : e.woken.wake = true := (rfl)
@[simp] theorem Event.woken_arb (e : Event) : e.woken.arb = e.arb := (rfl)
@[simp] theorem Event.woken_ring (e : Event) : e.woken.ring = e.ring := (rfl)

@[simp] theorem Event.arbiterDue_toState (e : Event) : e.arbiterDue.toState = e.toState := rfl
@[simp] theorem Event.arbiterDue_step (e : Event) : e.arbiterDue.step = e.step := (rfl)
@[simp] theorem Event.arbiterDue_go (e : Event) : e.arbiterDue.go = e.go := (rfl)
@[simp] theorem Event.arbiterDue_wake (e : Event) : e.arbiterDue.wake = e.wake := (rfl)
@[simp] theorem Event.arbiterDue_arb (e : Event) : e.arbiterDue.arb = true := (rfl)
@[simp] theorem Event.arbiterDue_ring (e : Event) : e.arbiterDue.ring = e.ring := (rfl)

@[simp] theorem Event.goOn_toState (e : Event) : e.goOn.toState = e.toState := rfl
@[simp] theorem Event.goOn_step (e : Event) : e.goOn.step = e.step := (rfl)
@[simp] theorem Event.goOn_go (e : Event) : e.goOn.go = true := (rfl)
@[simp] theorem Event.goOn_wake (e : Event) : e.goOn.wake = e.wake := (rfl)
@[simp] theorem Event.goOn_arb (e : Event) : e.goOn.arb = e.arb := (rfl)
@[simp] theorem Event.goOn_ring (e : Event) : e.goOn.ring = e.ring := (rfl)

end Sys2Proof.Machine
end

