-- ==== Sys2Proof/Laws/Finish.lean ====
section
/-! SUPPORT. The end of an event: what `finish` does when nothing is left to do, and what it does to the line
interface when event flags were set (log 10). -/

namespace Sys2Proof.Machine

/-- An event with no step, go-on or wake mark is settled. -/
theorem settle_settled (n : Nat) (e : Event) (hs : e.step = false) (hg : e.go = false) (hw : e.wake = false) :
    settle n e = e := by
  cases n <;> simp [settle, hs, hg, hw]

/-- An event with no mark at all ends as it stands. -/
theorem finish_unmarked (e : Event) (hs : e.step = false) (hg : e.go = false) (hw : e.wake = false)
    (ha : e.arb = false) (hr : e.ring = false) : finish e = e.toState := by
  simp [finish, settle_settled settleRounds e hs hg hw, arbiterIfDue, ha, reportIfDue, hr]

/-- In an undisturbed state a wake evaluates nothing. -/
theorem evaluateWait_undisturbed (e : Event) (h : undisturbed e.toState = true) : evaluateWait false e = e := by
  unfold undisturbed at h
  unfold evaluateWait
  split
  · rename_i h1 h2 h3
    split <;> simp_all [Mode.working]
  · simp
  · rfl

/-- In an undisturbed state the arbiter chooses nothing. -/
theorem arbiter_undisturbed (e : Event) (h : undisturbed e.toState = true) : arbiter e = e := by
  unfold undisturbed at h
  unfold arbiter
  split
  · simp_all
  · rfl

/-- In an undisturbed state, with no step and no go-on, settling only takes the wake mark off. -/
theorem settle_undisturbed (n : Nat) (e : Event) (hs : e.step = false) (hg : e.go = false)
    (h : undisturbed e.toState = true) : settle (n + 1) e = { e with wake := false } := by
  cases hw : e.wake with
  | false => rw [settle_settled _ e hs hg hw, ← hw]
  | true =>
    have hu : undisturbed { e with go := false, wake := false }.toState = true := h
    have hev := evaluateWait_undisturbed _ hu
    simp only [settle, hs, hg, hw, Bool.false_eq_true, if_false, Bool.false_or, if_true]
    simp only [hs] at hev
    rw [hev, settle_settled _ _ rfl rfl rfl]

/-- In an undisturbed state an event with no step and no go-on ends with its report alone. -/
theorem finish_ringing (e : Event) (hs : e.step = false) (hg : e.go = false) (h : undisturbed e.toState = true) :
    finish e = (reportIfDue { e with wake := false, arb := false }).toState := by
  have hu : undisturbed { e with wake := false, arb := false }.toState = true := h
  unfold finish settleRounds
  rw [settle_undisturbed 99 e hs hg h]
  cases e.arb with
  | false => simp [arbiterIfDue]
  | true => simp [arbiterIfDue, arbiter_undisturbed _ hu]

/-- In an undisturbed state an event with no step, no go-on and no report due ends as it stands. -/
theorem finish_undisturbed (e : Event) (hs : e.step = false) (hg : e.go = false) (hr : e.ring = false)
    (h : undisturbed e.toState = true) : finish e = e.toState := by
  rw [finish_ringing e hs hg h]
  simp [reportIfDue, hr]

/-! ### Flags -/

/-- What setting one flag makes of the line interface, the report delay not yet run out. -/
def flagLine (st : StandEntry) (f : Flag) (x : LineState) : LineState :=
  if x.flags.contains f then x
  else if st.enables.contains f ∧ x.report = .none then
    { x with flags := addFlag f x.flags, report := .delaying, reportTimer := some (st.reportDelay * 10 * Config.ms) }
  else { x with flags := addFlag f x.flags }

/-- Whether setting one flag starts a report delay of 0. -/
def flagRings (st : StandEntry) (f : Flag) (x : LineState) : Bool :=
  !x.flags.contains f && st.enables.contains f && decide (x.report = .none) && decide (st.reportDelay = 0)

/-- Setting a flag changes the line interface and the report mark, and nothing else. -/
theorem setFlag_eq (f : Flag) (e : Event) :
    setFlag f e = { e with line := flagLine e.stand f e.line, ring := e.ring || flagRings e.stand f e.line } := by
  unfold setFlag flagLine flagRings
  cases h1 : e.line.flags.contains f
  · cases h2 : e.stand.enables.contains f
    · simp [Event.setLine]
    · by_cases h3 : e.line.report = .none <;> simp [h3, Event.setLine]
  · simp

@[simp] theorem setFlag_step (f : Flag) (e : Event) : (setFlag f e).step = e.step := by rw [setFlag_eq]
@[simp] theorem setFlag_go (f : Flag) (e : Event) : (setFlag f e).go = e.go := by rw [setFlag_eq]
@[simp] theorem setFlag_wake (f : Flag) (e : Event) : (setFlag f e).wake = e.wake := by rw [setFlag_eq]
@[simp] theorem setFlag_arb (f : Flag) (e : Event) : (setFlag f e).arb = e.arb := by rw [setFlag_eq]
@[simp] theorem setFlag_toState (f : Flag) (e : Event) :
    (setFlag f e).toState = { e.toState with line := flagLine e.stand f e.line } := by rw [setFlag_eq]
@[simp] theorem setFlag_ring (f : Flag) (e : Event) :
    (setFlag f e).ring = (e.ring || flagRings e.stand f e.line) := by rw [setFlag_eq]

/-! ### Several flags of one event -/

/-- A report delay of 0 that has run out, on the line interface alone. -/
def reportLine (x : LineState) : LineState :=
  if x.report = .delaying then
    if x.tx.length < Config.txPlaces then
      if x.flags = [] then { x with report := .none, reportTimer := none }
      else { x with report := .none, reportTimer := none, tx := x.tx ++ [evCard x.flags] }
    else { x with report := .due, reportTimer := none }
  else x

/-- A report that is due at the end of an event changes the line interface alone. -/
theorem reportIfDue_toState (e : Event) :
    (reportIfDue e).toState = if e.ring = true then { e.toState with line := reportLine e.line } else e.toState := by
  unfold reportIfDue reportDelayEnds buildReport reportLine txFree
  by_cases hr : e.ring = true
  · by_cases h1 : e.line.report = .delaying
    · by_cases h2 : e.line.tx.length < Config.txPlaces
      · by_cases h3 : e.line.flags = [] <;> simp [hr, h1, h2, h3]
      · simp [hr, h1, h2]
    · simp [hr, h1]
  · simp [hr]

theorem mem_flagAll (f : Flag) : f ∈ Flag.all := by cases f <;> decide

/-- Which flags are set after a join. -/
theorem joinFlags_eq (fs set : List Flag) :
    joinFlags fs set =
      if ∀ g ∈ fs, g ∈ set then set else Flag.all.filter fun g => decide (g ∈ fs ∨ g ∈ set) := by
  unfold joinFlags
  by_cases h : ∀ g ∈ fs, g ∈ set
  · rw [if_pos h, if_pos (by simpa using h)]
  · rw [if_neg h, if_neg (by simpa using h)]
    apply List.filter_congr
    simp

theorem addFlag_eq (f : Flag) (set : List Flag) : addFlag f set = Flag.all.filter fun g => decide (g = f ∨ g ∈ set) := by
  apply List.filter_congr
  simp

/-- Joining flags one after another joins them all. -/
theorem joinFlags_cons (f : Flag) (fs set : List Flag) :
    joinFlags (f :: fs) set = joinFlags fs (if f ∈ set then set else addFlag f set) := by
  rw [joinFlags_eq, joinFlags_eq, addFlag_eq]
  by_cases hf : f ∈ set
  · by_cases ha : ∀ g ∈ fs, g ∈ set
    · rw [if_pos hf, if_pos ha, if_pos (by intro g hg; rcases List.mem_cons.mp hg with rfl | hg; exact hf; exact ha g hg)]
    · rw [if_pos hf, if_neg ha, if_neg (fun h => ha fun g hg => h g (List.mem_cons_of_mem _ hg))]
      apply List.filter_congr
      intro g _
      by_cases hg : g = f
      · subst hg; simp [hf]
      · simp [hg]
  · rw [if_neg hf, if_neg (fun h => hf (h f List.mem_cons_self))]
    split
    · rename_i h
      apply List.filter_congr
      intro g _
      by_cases hg : g ∈ fs
      · have := h g hg
        simp only [List.mem_filter, mem_flagAll, true_and, decide_eq_true_eq] at this
        simp [hg, this]
      · simp [hg]
    · apply List.filter_congr
      intro g _
      simp only [List.mem_filter, mem_flagAll, true_and, decide_eq_true_eq, List.mem_cons]
      by_cases h1 : g = f <;> by_cases h2 : g ∈ fs <;> by_cases h3 : g ∈ set <;> simp [h1, h2, h3]

/-- A flag among those joined was already set, or is enabled and new. -/
theorem newEnabled_cons (en : List Flag) (f : Flag) (fs set : List Flag) :
    newEnabled en (f :: fs) set
      = (en.contains f && !set.contains f || newEnabled en fs (if f ∈ set then set else addFlag f set)) := by
  unfold newEnabled
  rw [List.any_cons]
  by_cases hf : f ∈ set
  · simp [hf]
  · by_cases hen : f ∈ en
    · simp [hf, hen]
    · have hen' : en.contains f = false := by simpa using hen
      simp only [hf, if_false, hen', Bool.false_and, Bool.false_or]
      congr 1
      funext g
      by_cases hg : g = f
      · subst hg; simp [hen]
      · simp [addFlag_eq, mem_flagAll, hg]

/-- The line interface after flags are set one after another, the report delay not yet run out. -/
theorem foldl_flagLine (st : StandEntry) (fs : List Flag) (x : LineState) :
    fs.foldl (fun x f => flagLine st f x) x =
      if newEnabled st.enables fs x.flags = true ∧ x.report = .none then
        { x with flags := joinFlags fs x.flags, report := .delaying, reportTimer := some (st.reportDelay * 10 * Config.ms) }
      else { x with flags := joinFlags fs x.flags } := by
  induction fs generalizing x with
  | nil => simp [joinFlags, newEnabled]
  | cons f fs ih =>
    rw [List.foldl_cons, ih, joinFlags_cons, newEnabled_cons]
    unfold flagLine
    by_cases hf : f ∈ x.flags
    · simp [hf]
    · by_cases hen : f ∈ st.enables
      · by_cases hr : x.report = .none
        · simp [hf, hen, hr]
        · simp [hf, hen, hr]
      · simp [hf, hen]

/-- Whether setting flags one after another starts a report delay of 0. -/
def flagsRing (st : StandEntry) (fs : List Flag) (x : LineState) : Bool :=
  newEnabled st.enables fs x.flags && decide (x.report = .none) && decide (st.reportDelay = 0)

/-- Several flags set one after another, as one equation. -/
theorem foldl_setFlag (fs : List Flag) (e : Event) :
    fs.foldl (fun e f => setFlag f e) e =
      { e with line := fs.foldl (fun x f => flagLine e.stand f x) e.line,
               ring := e.ring || flagsRing e.stand fs e.line } := by
  induction fs generalizing e with
  | nil => simp [flagsRing, newEnabled]
  | cons f fs ih =>
    rw [List.foldl_cons, ih, setFlag_eq, List.foldl_cons]
    have : (flagRings e.stand f e.line || flagsRing e.stand fs (flagLine e.stand f e.line))
        = flagsRing e.stand (f :: fs) e.line := by
      unfold flagRings flagsRing flagLine
      rw [newEnabled_cons]
      by_cases hf : f ∈ e.line.flags
      · simp [hf]
      · by_cases hen : f ∈ e.stand.enables
        · by_cases hr : e.line.report = .none
          · simp [hf, hen, hr]
          · simp [hf, hen, hr]
        · simp [hf, hen]
    rw [← this, Bool.or_assoc]

/-- Joined flags are none only where none was set and none joins. -/
theorem joinFlags_ne_nil (en fs set : List Flag) (h : newEnabled en fs set = true) : joinFlags fs set ≠ [] := by
  rw [joinFlags_eq]
  simp only [newEnabled, List.any_eq_true, Bool.and_eq_true] at h
  obtain ⟨g, hg, -, hs⟩ := h
  split
  · rename_i ha
    have := ha g hg
    simp_all
  · intro hn
    have : g ∈ Flag.all.filter fun g => decide (g ∈ fs ∨ g ∈ set) := by simp [mem_flagAll, hg]
    rw [hn] at this
    cases this

/-- Flags set in one event, whose report delay may be 0, make of the line interface what `raised` says. -/
theorem reportIfDue_flags (fs : List Flag) (e : Event) (hr : e.ring = false) :
    (reportIfDue (fs.foldl (fun e f => setFlag f e) e)).toState =
      { e.toState with line := raised e.stand fs e.line } := by
  rw [reportIfDue_toState, foldl_setFlag, foldl_flagLine]
  unfold flagsRing raised
  simp only [hr, Bool.false_or]
  by_cases h1 : newEnabled e.stand.enables fs e.line.flags = true
  · by_cases h2 : e.line.report = .none
    · by_cases h3 : e.stand.reportDelay = 0
      · simp [h1, h2, h3, reportLine, joinFlags_ne_nil _ _ _ h1]
      · simp [h1, h2, h3]
    · simp [h1, h2]
  · simp [h1]

/-- An event that ends with flags set, in an undisturbed state. -/
theorem finish_flags (fs : List Flag) (e : Event) (hs : e.step = false) (hg : e.go = false) (hr : e.ring = false)
    (h : undisturbed e.toState = true) :
    finish (fs.foldl (fun e f => setFlag f e) e) = { e.toState with line := raised e.stand fs e.line } := by
  have hst : ∀ (fs : List Flag) (e : Event), (fs.foldl (fun e f => setFlag f e) e).step = e.step
      ∧ (fs.foldl (fun e f => setFlag f e) e).go = e.go := by
    intro fs
    induction fs with
    | nil => intro e; exact ⟨rfl, rfl⟩
    | cons f fs ih => intro e; simpa using ih (setFlag f e)
  rw [finish_ringing _ ((hst fs e).1.trans hs) ((hst fs e).2.trans hg) (by rw [foldl_setFlag]; exact h)]
  rw [← reportIfDue_flags fs e hr]
  rw [reportIfDue_toState, reportIfDue_toState]

/-- An event with no wake that ends with flags set and no arbiter due. -/
theorem finish_flags_unwoken (fs : List Flag) (e : Event) (hs : e.step = false) (hg : e.go = false)
    (hw : e.wake = false) (ha : e.arb = false) (hr : e.ring = false) :
    finish (fs.foldl (fun e f => setFlag f e) e) = { e.toState with line := raised e.stand fs e.line } := by
  rw [← reportIfDue_flags fs e hr]
  unfold finish
  rw [foldl_setFlag]
  rw [settle_settled settleRounds _ (by exact hs) (by exact hg) (by exact hw)]
  unfold arbiterIfDue
  simp only [ha, Bool.false_eq_true, if_false]

end Sys2Proof.Machine
end

