-- ==== Sys2Proof/Laws/Operations.lean ====
section
/-! SUPPORT. What each shared operation does, said once: the passing of time, a card and its reply, a table write, the lamp
and the shutter, the queues, the frame map, the accounts. -/

namespace Sys2Proof.Machine

/-! ### Time -/

theorem timerAfter_zero (t : Timer) : timerAfter 0 t = t := by cases t <;> rfl

@[simp] theorem elapse_modes (n : Nat) (s : State) : (elapse n s).modes = s.modes := by unfold elapse; split <;> rfl
@[simp] theorem elapse_stand (n : Nat) (s : State) : (elapse n s).stand = s.stand := by unfold elapse; split <;> rfl
@[simp] theorem elapse_latch (n : Nat) (s : State) : (elapse n s).latch = s.latch := by unfold elapse; split <;> rfl
@[simp] theorem elapse_store (n : Nat) (s : State) : (elapse n s).store = s.store := by unfold elapse; split <;> rfl
@[simp] theorem elapse_tables (n : Nat) (s : State) : (elapse n s).tables = s.tables := by unfold elapse; split <;> rfl
@[simp] theorem elapse_seq (n : Nat) (s : State) : (elapse n s).seq = s.seq := by unfold elapse; split <;> rfl
@[simp] theorem elapse_records (n : Nat) (s : State) : (elapse n s).records = s.records := by unfold elapse; split <;> rfl
@[simp] theorem elapse_money (n : Nat) (s : State) : (elapse n s).money = s.money := by unfold elapse; split <;> rfl
@[simp] theorem elapse_pending (n : Nat) (s : State) : (elapse n s).pending = s.pending := by unfold elapse; split <;> rfl
@[simp] theorem elapse_tx (n : Nat) (s : State) : (elapse n s).line.tx = s.line.tx := by unfold elapse; split <;> rfl
@[simp] theorem elapse_flags (n : Nat) (s : State) : (elapse n s).line.flags = s.line.flags := by unfold elapse; split <;> rfl
@[simp] theorem elapse_report (n : Nat) (s : State) : (elapse n s).line.report = s.line.report := by unfold elapse; split <;> rfl
@[simp] theorem elapse_opened (n : Nat) (s : State) : (elapse n s).shutter.opened = s.shutter.opened := by
  unfold elapse; split <;> rfl
@[simp] theorem elapse_lampState (n : Nat) (s : State) : (elapse n s).lamp.state = s.lamp.state := by unfold elapse; split <;> rfl
@[simp] theorem elapse_lampUser (n : Nat) (s : State) : (elapse n s).lamp.user = s.lamp.user := by unfold elapse; split <;> rfl
@[simp] theorem elapse_lampWaiting (n : Nat) (s : State) : (elapse n s).lamp.waiting = s.lamp.waiting := by
  unfold elapse; split <;> rfl
@[simp] theorem elapse_meterEntry (n : Nat) (s : State) : (elapse n s).meter.entry = s.meter.entry := by
  unfold elapse; split <;> rfl
@[simp] theorem elapse_meterPhase (n : Nat) (s : State) : (elapse n s).meter.phase = s.meter.phase := by
  unfold elapse; split <;> rfl
@[simp] theorem elapse_meterJob (n : Nat) (s : State) : (elapse n s).meter.job = s.meter.job := by unfold elapse; split <;> rfl
@[simp] theorem elapse_meterCount (n : Nat) (s : State) : (elapse n s).meter.count = s.meter.count := by
  unfold elapse; split <;> rfl
@[simp] theorem elapse_calibrating (n : Nat) (s : State) : (elapse n s).meter.calibrating = s.meter.calibrating := by
  unfold elapse; split <;> rfl
@[simp] theorem elapse_filmState (n : Nat) (s : State) : (elapse n s).film.state = s.film.state := by unfold elapse; split <;> rfl
@[simp] theorem elapse_rolls (n : Nat) (s : State) : (elapse n s).film.rolls = s.film.rolls := by unfold elapse; split <;> rfl
@[simp] theorem elapse_order (n : Nat) (s : State) : (elapse n s).film.order = s.film.order := by unfold elapse; split <;> rfl
@[simp] theorem elapse_spool (n : Nat) (s : State) : (elapse n s).labels.spool = s.labels.spool := by unfold elapse; split <;> rfl
@[simp] theorem elapse_feedHold (n : Nat) (s : State) : (elapse n s).labels.feedHold = s.labels.feedHold := by
  unfold elapse; split <;> rfl
@[simp] theorem elapse_printer (n : Nat) (s : State) : (elapse n s).labels.printer = s.labels.printer := by
  unfold elapse; split <;> rfl

/-- An expiry of a running timer lets the time it has left pass and is then one event. -/
theorem expires_running (n : Nat) (f : Event → Event) (s : State) : expires (some n) f s = .next (finish (f (elapse n s).begin)) :=
  rfl
/-- An expiry of a stopped timer changes nothing. -/
theorem expires_stopped (f : Event → Event) (s : State) : expires none f s = .next s := rfl

/-! ### Cards, replies and table writes -/

/-- A card that finds a place for its reply is one event (R9). -/
theorem takeCard_free (f : Event → Event) (s : State) (h : s.line.tx.length < 16) :
    takeCard f s = .next (finish (f s.begin)) := by
  simp [takeCard, txFree, Config.txPlaces, h, runEvent]

/-- A card that finds no place is not taken (R9, log 6). -/
theorem takeCard_full (f : Event → Event) (s : State) (h : 16 ≤ s.line.tx.length) : takeCard f s = .next s := by
  have : ¬ s.line.tx.length < 16 := by omega
  simp [takeCard, txFree, Config.txPlaces, this]

theorem replyOk_eq (kind : Text) (key : List Text) (e : Event) :
    replyOk kind key e = e.setLine (lineSends (okCard kind key) e.line) := rfl
theorem replyNo_eq (kind : Text) (key : List Text) (r : Reason) (e : Event) :
    replyNo kind key r e = e.setLine (lineSends (noCard kind key r) e.line) := rfl
theorem replyAn_eq (kind : Text) (key answer : List Text) (e : Event) :
    replyAn kind key answer e = e.setLine (lineSends (anCard kind key answer) e.line) := rfl

/-- A table write whose index is refused (R11). -/
theorem tableWrite_index (name : Text) (n : Nat) (judge : Fin n → List Text → State → Judgement) (fields : List Text) (e : Event)
    (h : finField n (fields.getD 0 []) = none) :
    tableWrite name n judge fields e = replyNo (txt "TB") [name, fields.getD 0 []] .field e := by
  simp only [tableWrite, h]

/-- A table write its owner refuses. -/
theorem tableWrite_refused (name : Text) (n : Nat) (judge : Fin n → List Text → State → Judgement) (fields : List Text) (e : Event)
    (i : Fin n) (r : Reason) (h : finField n (fields.getD 0 []) = some i) (hj : judge i (fields.drop 1) e.toState = .error r) :
    tableWrite name n judge fields e = replyNo (txt "TB") [name, fields.getD 0 []] r e := by
  simp only [tableWrite, h, hj]

/-- A table write its owner accepts: written, answered, a waiting set start and the arbiter woken. -/
theorem tableWrite_accepted (name : Text) (n : Nat) (judge : Fin n → List Text → State → Judgement) (fields : List Text) (e : Event)
    (i : Fin n) (write : Event → Event) (h : finField n (fields.getD 0 []) = some i)
    (hj : judge i (fields.drop 1) e.toState = .ok write) :
    tableWrite name n judge fields e =
      (replyOk (txt "TB") [name, natKey (fields.getD 0 []) i.val] (write e)).woken.arbiterDue := by
  simp only [tableWrite, h, hj]

/-- The word of a mode names it. -/
theorem modeOf_modeWord (m : Mode) : modeOf (modeWord m) = some m := by cases m <;> decide
/-- The word of a flag names it. -/
theorem flagOf_flagWord (f : Flag) : flagOf (flagWord f) = some f := by cases f <;> decide

/-! ### Lamp and shutter -/

/-- A lamp that does not serve the user is left alone. -/
theorem extinguishFor_other (u : User) (e : Event) (h : lampServes u e.lamp = false) : extinguishFor u e = e := by
  simp [extinguishFor, h]

/-- The lamp goes dark for a cool-down above 0: the meter stops and the lighting is lost (R69, R121). -/
theorem darken_pos (ms : Nat) (e : Event) (h : 0 < ms) :
    darken ms e = lightingLost (meterStops (e.setLamp { e.lamp with
      state := .cooling, user := none, warmUp := none, coolDown := some (ms * Config.ms) })) := by
  have : ms ≠ 0 := by omega
  simp [darken, this]

/-- A request to light a lamp that is OFF, with a warm-up above 0 (R118). -/
theorem lightLamp_off (u : User) (e : Event) (h : e.lamp.state = .off) (hw : e.meter.entry.warmUp ≠ 0) :
    lightLamp u e = e.setLamp { e.lamp with
      state := .warming, user := some u, lit := 0, warmUp := some (warmUpMs e.meter.entry * Config.ms) } := by
  simp [lightLamp, h, hw]

/-- A CLOSED shutter stays as it is. -/
theorem closeShutter_closed (e : Event) (h : e.shutter.opened = false) : closeShutter e = e := by simp [closeShutter, h]
theorem closeUnfit_closed (e : Event) (h : e.shutter.opened = false) : closeUnfit e = e := by
  simp [closeUnfit, closeShutter_closed e h]

/-! ### Queues -/

@[simp] theorem changeRing_table (k : Fin 8) (g : Ring → Ring) (s : Store) : (changeRing k g s).table = s.table := rfl
@[simp] theorem changeRing_ended (k : Fin 8) (g : Ring → Ring) (s : Store) : (changeRing k g s).ended = s.ended := rfl
/-- One ring changes. -/
theorem changeRing_rings (k j : Fin 8) (g : Ring → Ring) (s : Store) :
    (changeRing k g s).rings[j] = if k = j then g s.rings[k] else s.rings[j] := by
  simp only [changeRing, Fin.getElem_fin, Vector.getElem_set]
  by_cases h : k = j
  · subst h; simp
  · simp [h, Fin.val_ne_of_ne h]

/-! ### Frame map -/

theorem changeRecords_length (p : Record → Bool) (g : Record → Record) (rs : List Record) :
    (changeRecords p g rs).length = rs.length := by simp [changeRecords]

/-- A change that keeps slot and frame keeps every record's place. -/
theorem changeRecords_places (p : Record → Bool) (g : Record → Record) (rs : List Record)
    (hg : ∀ r, (g r).slot = r.slot ∧ (g r).frame = r.frame) :
    (changeRecords p g rs).map (fun r => (r.slot, r.frame)) = rs.map fun r => (r.slot, r.frame) := by
  induction rs with
  | nil => rfl
  | cons r rs ih =>
    simp only [changeRecords, List.map_cons] at ih ⊢
    rw [ih]
    by_cases h : p r = true <;> simp [h, hg r]

/-- A record joins the collection and nothing else changes but the order. -/
theorem insertRecord_perm (r : Record) (rs : List Record) : (insertRecord r rs).Perm (r :: rs) := by
  induction rs with
  | nil => exact .refl _
  | cons x xs ih =>
    simp only [insertRecord]
    split
    · exact .refl _
    · exact (ih.cons x).trans (.swap r x xs)

/-! ### Accounts -/

/-- One account changes. -/
theorem changeAccount_get (i j : Fin 64) (f : Account → Account) (a : Accounts) :
    (changeAccount i f a)[j] = if i = j then f a[i] else a[j] := by
  simp only [changeAccount, Fin.getElem_fin, Vector.getElem_set]
  by_cases h : i = j
  · subst h; simp
  · simp [h, Fin.val_ne_of_ne h]

/-- A posting keeps a final balance at or below its top (R197). -/
theorem addFinal_le (n : Nat) (a : Account) : (addFinal n a).final ≤ Config.finalTop := by
  unfold addFinal; split <;> simp_all
@[simp] theorem addFinal_provisional (n : Nat) (a : Account) : (addFinal n a).provisional = a.provisional := by
  unfold addFinal; split <;> rfl

/-! ### The advance -/

/-- An advance that starts is stopped by the roll end, or put in flight (R141, steps 2 and 3). -/
theorem startAdvance_eq (k : AdvanceKind) (e : Event) :
    startAdvance k e =
      if e.inputs.rollEnd.debounced = true then setFlag .roll (filmTo (.suspSensor k) e)
      else e.setFilm { e.film with
        state := if k = .frame then .advancing else .loading
        flight := some { kind := k, edge := e.stand.markEdge, left := e.stand.advanceTimeout * Config.ms } } := rfl
/-- Outside READY a FRAME advance that is asked for is not run (R141). -/
theorem askAdvance_other (e : Event) (h : e.film.state ≠ .ready) : askAdvance e = e := by simp [askAdvance, h]
/-- In READY it takes a roll at its last frame to SUSPENDED(FRAMES), and any other to the start of the advance (R141). -/
theorem askAdvance_ready (e : Event) (i : Fin 4) (r : Roll) (h : e.film.state = .ready) (hi : cameraSlot e.film = some i)
    (hr : e.film.rolls[i] = some r) :
    askAdvance e = if r.capacity ≤ r.next then exhaustRoll i e else startAdvance .frame e := by
  simp only [askAdvance, h, if_true, judgeFrameAdvance, hi, hr]

/-! ### The set start -/

/-- While R106 has the set start wait for a roll, it does nothing but wait with cause ROLL. -/
theorem evaluateSetStart_awaited (c : Current) (e : Event) (h : rollAwaited e.film = true) :
    evaluateSetStart c e = enterWait .roll e := by simp [evaluateSetStart, h]
/-- `rollAwaited` holds in FAULT(DOOR), and in NO_ROLL and LOADING when the sequencer was told; nowhere else. -/
theorem rollAwaited_iff (f : Film) :
    rollAwaited f = true ↔ f.state = .faultDoor ∨ (f.state = .noRoll ∨ f.state = .loading) ∧ f.told = true := by
  unfold rollAwaited; split <;> simp_all
/-- With a roll at a frame the checks of R97 begin with the lamp. -/
theorem evaluateSetStart_cooling (c : Current) (e : Event) (h : rollAwaited e.film = false) (hl : e.lamp.state = .cooling) :
    evaluateSetStart c e = enterWait .lamp e := by simp [evaluateSetStart, h, hl]

/-! ### The next instant -/

/-- The least of a list and a start: it is no greater than either, and it is the start or in the list. -/
theorem foldl_min_spec (l : List Nat) (a : Nat) :
    l.foldl min a ≤ a ∧ (∀ m ∈ l, l.foldl min a ≤ m) ∧ (l.foldl min a = a ∨ l.foldl min a ∈ l) := by
  induction l generalizing a with
  | nil => simp
  | cons x xs ih =>
    obtain ⟨h1, h2, h3⟩ := ih (min a x)
    simp only [List.foldl_cons, List.mem_cons, forall_eq_or_imp]
    refine ⟨by omega, ⟨by omega, h2⟩, ?_⟩
    rcases h3 with h3 | h3
    · rcases Nat.le_total a x with h | h
      · exact .inl (by omega)
      · exact .inr (.inl (by omega))
    · exact .inr (.inr h3)
/-- The next instant is one of those ahead, and no other that is still to come is nearer (log 2). -/
theorem untilInstant_spec (s : State) :
    untilInstant s ∈ nextInstants s ∧ 0 < untilInstant s ∧ ∀ m ∈ nextInstants s, 0 < m → untilInstant s ≤ m := by
  obtain ⟨h1, h2, h3⟩ := foldl_min_spec ((nextInstants s).filter (0 < ·)) Config.tenth
  have hb : 0 < Config.tenth - s.clock % Config.tenth ∧ Config.tenth - s.clock % Config.tenth ≤ Config.tenth := by
    have := Nat.mod_lt s.clock (show 0 < Config.tenth by decide)
    omega
  have hm : Config.tenth - s.clock % Config.tenth ∈ nextInstants s := List.mem_cons_self
  have hl : untilInstant s ≤ Config.tenth - s.clock % Config.tenth :=
    h2 _ (List.mem_filter.2 ⟨hm, by simpa using hb.1⟩)
  refine ⟨?_, ?_, fun m hm hp => h2 m (List.mem_filter.2 ⟨hm, by simpa using hp⟩)⟩
  · rcases h3 with h3 | h3
    · have : Config.tenth - s.clock % Config.tenth = untilInstant s := by unfold untilInstant at *; omega
      exact this ▸ hm
    · exact (List.mem_filter.1 h3).1
  · rcases h3 with h3 | h3
    · unfold untilInstant; rw [h3]; decide
    · simpa [untilInstant] using (List.mem_filter.1 h3).2

end Sys2Proof.Machine
end

