-- ==== Sys2Proof/WellFormed.lean ====
section
/-! DEFINITION. Which commands the order line can carry: the character set and the length of a card. The
meanings never ask for it; it rules out operands that no card on the line could spell. -/

namespace Sys2Proof

/-- A printable character, codes 32 to 126 (spec/01, Card form). -/
def printable (c : Char) : Bool := decide (32 ≤ c.toNat) && decide (c.toNat ≤ 126)

/-- A character that may stand in field text: printable, and none of `<`, `>`, `|`, `*` (spec/01, Card form). -/
def fieldChar (c : Char) : Bool := printable c && c != '<' && c != '>' && c != '|' && c != '*'

/-- Field text: any run of field characters, the empty run included. -/
def fieldText (t : Text) : Bool := t.all fieldChar

/-- The characters of a card from `<` through `>`: two kind letters, each field with its `|`, the `*`, two
check characters. -/
def cardLength (fields : List Text) : Nat := 7 + (fields.map (fun f => f.length + 1)).sum

/-- The fields of a card taken whole: field texts only, and at most 160 characters (R5). -/
def wholeCard (fields : List Text) : Bool := fields.all fieldText && decide (cardLength fields ≤ 160)

/-- A command the order line or the stand can give. For a TB or QY row the table name or subject word, which
the row's name stands for, counts towards the card's length. -/
def Instr.wf : Instr → Bool
  | .cardRefusedCheckOrKind failed kind fields check =>
      fieldText kind && fieldText check && fields.all fieldText
        && decide (cardLength fields + kind.length + check.length ≤ if failed then 165 else 164)
  | .sl f | .cn f | .md f | .cb f | .rl f | .ul f | .rt f | .dr f | .kp f | .rs f | .cl f | .se f => wholeCard f
  | .tbStand f => wholeCard (txt "STAND" :: f)
  | .tbQueue f => wholeCard (txt "QUEUE" :: f)
  | .tbMeter f => wholeCard (txt "METER" :: f)
  | .tbStock f => wholeCard (txt "STOCK" :: f)
  | .tbPattern f => wholeCard (txt "PATTERN" :: f)
  | .tbFormat f => wholeCard (txt "FORMAT" :: f)
  | .tbAccount f => wholeCard (txt "ACCOUNT" :: f)
  | .tbRate f => wholeCard (txt "RATE" :: f)
  | .qyMode a => wholeCard (txt "MODE" :: a)
  | .qyCurrent a => wholeCard (txt "CURRENT" :: a)
  | .qyQueue a => wholeCard (txt "QUEUE" :: a)
  | .qySlip a => wholeCard (txt "SLIP" :: a)
  | .qyRoll a => wholeCard (txt "ROLL" :: a)
  | .qyFrames a => wholeCard (txt "FRAMES" :: a)
  | .qyAccount a => wholeCard (txt "ACCOUNT" :: a)
  | .qyCounters a => wholeCard (txt "COUNTERS" :: a)
  | .qyInputs a => wholeCard (txt "INPUTS" :: a)
  | .qyEnded a => wholeCard (txt "ENDED" :: a)
  | .qyEvents a => wholeCard (txt "EVENTS" :: a)
  | .qyTable a => wholeCard (txt "TABLE" :: a)
  | .qyTableDensity a => wholeCard (txt "TABLE" :: txt "DENSITY" :: a)
  | .qyTableBracket a => wholeCard (txt "TABLE" :: txt "BRACKET" :: a)
  | .orderLineCharacterReceived _ | .assemblerTakeCharacter | .transmitCardSent | .reportDelayExpiry
  | .lineReset | .standPowerUp _ | .retentionLatchCleared | .probePulse _ | .referencePhaseEnd
  | .referenceOverrun | .gatePhaseEnd | .gateOverrun | .warmUpExpiry | .guardExpiry | .coolDownExpiry
  | .exposureTimerExpiry | .rawLevelChange _ _ | .debounceExpiry _ | .advanceEnd | .advanceTimerExpiry
  | .labelSent | .printerAnswerA | .printerAnswerB | .printerAnswerS | .printerAnswerJ | .printerAnswerR
  | .retryTimerExpiry | .printerTimeoutExpiry => true

end Sys2Proof
end

