-- ==== Sys2Proof/Tests/Slice0.lean ====
section
/-! SUPPORT. Tests: the checks of WellFormed refuse ill-formed terms; worked examples of spec/ come out as printed there;
and every statement's hypotheses are met by a state written here, clause by clause. -/

open Sys2Proof Sys2Proof.Machine

namespace Sys2Proof.Tests

/-! ### Small states -/

/-- The state an event leaves. -/
def after (i : Instr) (s : State) : State := match exec i s with | .next t => t | _ => s
/-- The state a step leaves. -/
def ticked (s : State) : State := match step s with | .next t => t | _ => s
/-- The texts of some string literals. -/
def texts (l : List String) : List Text := l.map fun w => txt w
/-- The last card of the transmit queue, as it goes onto the line. -/
def lastCard (s : State) : Option Text := s.line.tx.getLast?.map cardText

def coldLamp : Lamp := { state := .off, user := none, waiting := none, lit := 0, warmUp := none, coolDown := none }
def litFor (u : User) : Lamp :=
  { state := .lit, user := some u, waiting := none, lit := 2000 * Config.ms, warmUp := none, coolDown := none }
/-- After reset with the cards out, the lamp OFF and the feed hold released. -/
def calm : State :=
  { State.reset with
    line := { State.reset.line with tx := [], flags := [] }
    lamp := coldLamp
    labels := { State.reset.labels with feedHold := false } }
def inMode (m : Mode) (s : State) : State := { s with modes := { requested := m, current := m, change := .none } }
def inSeq (st : SeqState) (s : State) : State := { s with seq := { s.seq with state := st } }
def slipA : Slip :=
  { number := 417, account := 7, queue := 2, catalog := txt "HA-1", title := some (txt "Arcade"), copies := 2, stock := 0,
    pattern := 1, format := 0, density := none, cancelPending := false }
def currentA : Current :=
  { slip := slipA, copy := 1, made := 0, incomplete := 0, factor := ⟨1, none⟩, metered := false, fresh := false }
def withSlip (s : State) : State := { s with seq := { s.seq with slip := some currentA } }
def accountA : Account := { Account.blank with code := some (txt "LANG"), rateClass := 1, state := .opened }
def withAccount (s : State) : State :=
  { s with money := { s.money with accounts := s.money.accounts.set 7 accountA, rates := s.money.rates.set 1 ⟨120, 300⟩ } }
def queued (s : State) : State :=
  { s with store := { s.store with rings := s.store.rings.set 2 { slips := [slipA], head := 48 } } }
def rollA : Roll := { state := .camera, number := 12, stock := 0, capacity := 800, next := 1, fogged := false }
def withRollIn (i : Fin 4) (r : Roll) (s : State) : State :=
  { s with film := { s.film with rolls := s.film.rolls.set i (some r) } }
def loaded (s : State) : State := withRollIn 0 rollA { s with film := { s.film with state := .ready } }
def withFilm (st : FilmState) (s : State) : State := { s with film := { s.film with state := st } }
def inFlight (k : AdvanceKind) (s : State) : State :=
  { s with film := { s.film with
      state := if k = .frame then .advancing else .loading, flight := some { kind := k, edge := .rise, left := 1500 * Config.ms } } }
def slideIn (s : State) : State := { s with inputs := { s.inputs with gate := ⟨true, true, none, false⟩ } }
def setA : SetCtx :=
  { stock := stockDefault[(0 : Fin 8)], pattern := [-1, 0, 1], times := [], frameFee := 120, copyFee := 300, step := 1,
    head := some 1, again := false }
def inSetA (s : State) : State := { withSlip s with seq := { (withSlip s).seq with set := some setA } }
def lit (u : User) (s : State) : State := { s with lamp := litFor u }
def metering (ph : MeterPhase) (u : User) (count : Nat) (ticks : Int) (s : State) : State :=
  lit u { s with meter := { s.meter with phase := ph, job := some ⟨u, 65536, 16384, .slow⟩, count, timeBase := ticks } }
def recordA (frame : Nat) : Record :=
  { slot := 0, frame, kind := .exposing, slip := 417, account := 7, copy := 1, copies := 2, head := 1, step := frame,
    bracket := 0, time := 2000, marks := Marks.clear, fee := 120, decision := .undecided, label := .none, charge := .none,
    data := if frame = 1 then some { status := .opened, catalog := txt "HA-1", title := none, format := 0, tag := txt "C",
                                     copyFee := 300 } else none }
def exposedA (frame : Nat) : Record := { recordA frame with kind := .exposed, charge := .provisional }
/-- In EXPOSING, the shutter open on frame 1 of the roll. -/
def exposing : State :=
  { lit .sequencer (slideIn (loaded (inSetA (inSeq .exposing (inMode .run (withAccount calm)))))) with
    shutter := { opened := true, timer := some (2000 * Config.tenth) }, records := [recordA 1] }
/-- The advance after the last step of the last copy. -/
def lastAdvance : State :=
  let s := inFlight .frame { exposing with shutter := ⟨false, none⟩ }
  { s with seq := { s.seq with
      state := .advancing, set := some { setA with step := 3 }, slip := some { currentA with copy := 2 } } }
/-- The advance after step 1 of 3, the steps of 200 ms, the lamp lit for `tenths`. -/
def midAdvance (tenths : Nat) : State :=
  let s := inFlight .frame { exposing with shutter := ⟨false, none⟩, lamp := { litFor .sequencer with lit := tenths * Config.tenth } }
  { s with seq := { s.seq with
      state := .advancing
      set := some { setA with times := List.replicate 3 ⟨2000, Marks.clear⟩ }
      slip := some { currentA with copy := 2, metered := true } } }
/-- A relight's metering about to end, the lamp lit for `tenths`. -/
def relit (tenths : Nat) : State :=
  let s := slideIn (loaded (metering .gate .sequencer 8192 (-1) (inSetA (inSeq .metering (inMode .run (withAccount calm))))))
  { s with lamp := { litFor .sequencer with lit := tenths * Config.tenth }, records := [], seq := { s.seq with
      state := .metering, set := some { setA with times := List.replicate 3 ⟨2000, Marks.clear⟩ } } }
def receiving (c : RxChar) (a : Assembler) : State := { calm with line := { calm.line with rx := [c], asm := a } }
def fullTx (s : State) : State := { s with line := { s.line with tx := List.replicate 16 ⟨txt "OK", [txt "CB"]⟩ } }
def labelA : SpoolEntry := { slot := 0, frame := 1, lines := [txt "HA-1"] }
def printing (p : PrinterState) (spool : List SpoolEntry) : State :=
  { calm with labels := { calm.labels with printer := p, spool, timeout := some (5000 * Config.ms), feedHold := true } }
def pressed (i : Input) (raw : Bool) (s : State) : State := { s with inputs := s.inputs.put i ⟨raw, !raw, some (10 * Config.ms), false⟩ }

/-! ### WellFormed refuses -/

theorem test_wf_field_char : Instr.wf (.md [txt "RU*N"]) = false := by decide
theorem test_wf_unprintable : Instr.wf (.cn [['\n']]) = false := by decide
theorem test_wf_card_too_long : Instr.wf (.kp [List.replicate 153 'A']) = false := by decide +kernel
theorem test_wf_card_length_160 : Instr.wf (.kp [List.replicate 152 'A']) = true := by decide +kernel
theorem test_wf_table_name_counts : Instr.wf (.tbStand [List.replicate 147 'A']) = false := by decide +kernel
theorem test_wf_subject_counts : Instr.wf (.qyTableDensity [List.replicate 139 'A']) = false := by decide +kernel
theorem test_wf_damaged_kind : Instr.wf (.cardRefusedCheckOrKind false (txt "M<") [] (txt "00")) = false := by decide
theorem test_wf_damaged_check : Instr.wf (.cardRefusedCheckOrKind false (txt "MD") [] (txt "0>")) = false := by decide

/-! ### The queue and the interface -/

theorem test_front_command_runs :
    let t := ticked { calm with pending := [.md [txt "RUN"], .cb []] }
    t.pending = [.cb []] ∧ t.modes.current = .run := by decide
theorem test_idle_tick_ages_cool_down :
    (ticked State.reset).lamp.coolDown = some (600000 * Config.tenth - Config.tenth) := by decide
theorem test_no_row_has_bits : decodeTableWord 8 0 = none := by decide
theorem test_fetch_word_adds_nothing : (State.reset.withFetchWord 8 5) = State.reset := by decide

/-! ### Worked examples of spec/ -/

/-- R2: the check of `<MD|RUN*02>`. -/
theorem test_check_md_run : checkText (txt "MD") [txt "RUN"] = txt "02" := by decide
/-- R14, R15, R20: the reset sets START and CELL and reports them. -/
theorem test_reset_report : lastCard State.reset = some (txt "<EV|START|CELL*" ++ checkText (txt "EV") [txt "START", txt "CELL"] ++ txt ">") := by
  decide
/-- R29, R30: a power-up that finds the latch clear leaves the reset state. -/
theorem test_cell_start_is_reset : after (.standPowerUp .b9600) { exposing with latch := false, inputs := State.reset.inputs }
    = State.reset := by decide +kernel
/-- R4: `>` of a good card carries it out. -/
theorem test_assembled_card_runs :
    (after .assemblerTakeCharacter (receiving ⟨'>', false⟩ ⟨.check, txt "MD", [txt "RUN"], txt "02", 10, false⟩)).modes.current
      = .run := by decide
/-- R7: a wrong check. -/
theorem test_assembled_card_wrong_check :
    (after .assemblerTakeCharacter (receiving ⟨'>', false⟩ ⟨.check, txt "MD", [txt "RUN"], txt "03", 10, false⟩)).line.tx
      = [⟨txt "NO", [txt "MD", txt "RUN", txt "CHECK"]⟩] := by decide
/-- R59, R63: the pulse that wraps the counter ends the reference phase. -/
theorem test_last_reference_pulse :
    (after (.probePulse .lamp) (metering .reference .sequencer 16777215 (-8192) calm)).meter.lastRef = 8192 := by decide
/-- R63: a pulse between the first two ticks of either time base makes T = 1. -/
theorem test_pulse_after_first_tick :
    let m (b : TimeBase) : State :=
      { metering .reference .sequencer 16777215 0 calm with
        meter := { calm.meter with phase := .reference, job := some ⟨.sequencer, 65536, 16384, b⟩, count := 16777215 } }
    (after (.probePulse .lamp) (ticked (m .slow))).meter.lastRef = 1
      ∧ (after (.probePulse .lamp) (ticked (m .fast))).meter.lastRef = 1 := by decide
/-- R72: equal counts give a calibration of 16,384. -/
theorem test_calibration_of_equal_counts :
    (after .gatePhaseEnd { metering .gate .calibration 65536 (-1) calm with meter :=
      { (metering .gate .calibration 65536 (-1) calm).meter with calibrating := true } }).meter.entry.cal = 16384 := by decide
/-- R78. -/
theorem test_density_table_ends : densityEntry 0 = 65536 ∧ densityEntry 50 = 207243 ∧ densityEntry 90 = 520571 := by decide
/-- R79: the four examples. -/
theorem test_factor_of_density :
    [0, 90, 250, 400].map factorOfDensity = [256, 2033, 80954, 2560000] := by decide
/-- R80: the five examples. -/
theorem test_proof_density : [1, 256, 2048, 80954, 16777215].map proofDensity = [0, 0, 90, 250, 480] := by decide +kernel
/-- R81. -/
theorem test_bracket_factors : [-6, -1, 0, 3, 6].map bracketFactor = [256, 813, 1024, 2048, 4096] := by decide
/-- The hypotheses of StepTimeAndMarks: a base time of 0, the clear gate at step 0, and the ends of the ranges of R87, where
the linear time passes 17,000,000,000. -/
theorem test_linear_time_bounds :
    (∃ x : StockEntry, x.base = 0)
      ∧ (∃ (x : StockEntry) (f : Factor), f.f256 = 256 ∧ x.base = 2000)
      ∧ (65535 * 16777215 * bracketFactor 6 + 131072) / 262144 > 17000000000
      ∧ 65535 * 16777215 * bracketFactor (-6) < 2 ^ 52 :=
  ⟨⟨{ State.reset.tables.stock[0] with base := 0 }, rfl⟩,
    ⟨{ State.reset.tables.stock[0] with base := 2000 }, { f256 := 256, mark := none }, rfl, rfl⟩, by decide, by decide⟩
/-- R88: COL100 stretches 10,004 to 10,005. -/
theorem test_stretch_col100 : stretchedTime 10000 320 10000 = 10000 ∧ stretchedTime 10000 320 10004 = 10005 := by decide
/-- R129: 10 ms of debounce. -/
theorem test_debounce_starts : (after (.rawLevelChange .door true) calm).inputs.door = ⟨true, false, some (10 * Config.ms), false⟩ := by decide
/-- R42: with the cell-start capacities queue 2 occupies slots 48 to 63. -/
theorem test_region_of_queue_two :
    regionBase queueTableDefault 2 = 48 ∧ nextPlace queueTableDefault 2 63 = 48 ∧ nextPlace queueTableDefault 2 61 = 62 := by decide
/-- R177: a label on the line. -/
theorem test_label_characters : labelChars labelA = txt "L1\rHA-1\rE\r" := by decide
/-- R172: a title runs on over two lines of 12, cut at the width. -/
theorem test_title_runs_on :
    composeLines ⟨[], txt "Nave looking east", [], [], [], [], []⟩ 12 [[.title], [.title]] 0
      = texts ["Nave looking", "east"] := by decide

/-! ### Witnesses: states and operands that meet the hypotheses of each statement, clause by clause -/

theorem witness_StepTakesFront : ({ calm with pending := [Instr.cb []] } : State).pending = .cb [] :: [] := by decide
theorem witness_IdleStepPassesTime : State.reset.pending = [] := by decide
theorem witness_SpeedChangesAtPowerUpOnly : exec .labelSent calm = .next calm := rfl

/-- One assembler for each clause: HUNT, the start of a card within another at its 160th character, and every state. -/
theorem witness_AssemblerTakesCharacter :
    let a (st : AsmState) : Assembler := ⟨st, txt "MD", [txt "R"], [], 159, false⟩
    let s (c : Char) (st : AsmState) := receiving ⟨c, false⟩ (a st)
    (s 'A' .hunt).line.rx = ⟨'A', false⟩ :: [] ∧ (s 'A' .hunt).line.tx.length < 16 ∧ (a .hunt).state = .hunt ∧ 'A' ≠ '<'
      ∧ (a .kind).count < 160 ∧ (a .kind).state = .kind ∧ (a .body).state = .body ∧ (a .check).state = .check
      ∧ (a .body).fields = [] ++ [txt "R"] ∧ 32 ≤ ' '.toNat ∧ ' '.toNat ≤ 126 ∧ '~'.toNat = 126 ∧ '\x1f'.toNat < 32
      ∧ 126 < '\x7f'.toNat := by decide
theorem witness_GoodCardIsItsRow :
    let s (k : Text) (f : List Text) := receiving ⟨'>', false⟩ ⟨.check, k, f, checkText k f, 159, false⟩
    (s (txt "MD") [txt "RUN"]).line.rx = ⟨'>', false⟩ :: [] ∧ (s (txt "MD") []).line.tx.length < 16
      ∧ (s (txt "MD") [txt "RUN"]).line.asm.check = checkText (txt "MD") [txt "RUN"]
      ∧ cardRow (txt "MD") [txt "RUN"] = some (.md [txt "RUN"]) ∧ tableRow (txt "BRACKET") [] = none
      ∧ queryRow (txt "NOTHING") [] = none ∧ cardRow (txt "TB") [txt "RATE", txt "0"] = some (.tbRate [txt "0"]) := by decide
theorem witness_BadCardIsRefused :
    let s (c : Char) (a : Assembler) := receiving ⟨c, false⟩ a
    let bad : Assembler := ⟨.check, txt "MD", [], txt "00", 159, false⟩
    let odd : Assembler := ⟨.check, txt "ZZ", [], checkText (txt "ZZ") [], 1, false⟩
    let long : Assembler := ⟨.body, txt "SL", [txt "417", txt "LA"], [], 160, false⟩
    (s '>' bad).line.tx.length < 16 ∧ bad.state ≠ .hunt ∧ bad.check ≠ checkText bad.kind bad.fields
      ∧ odd.check = checkText odd.kind odd.fields ∧ cardRow (txt "ZZ") [] = none ∧ odd.count < 160
      ∧ long.state ≠ .hunt ∧ long.count = 160 ∧ (s 'A' long).line.rx = ⟨'A', false⟩ :: [] := by decide
theorem witness_FullQueueStopsIntake : fromConsole (.cb []) = true ∧ 16 ≤ (fullTx calm).line.tx.length := by decide
theorem witness_CardSentFreesPlace :
    let full := fullTx (slideIn (withSlip calm))
    let waiting : State := { full with line := { full.line with pfWaiting := some ⟨txt "PF", []⟩ } }
    let delayed : State := { calm with line := { calm.line with report := .delaying, reportTimer := some 0, flags := [.start] } }
    full.line.tx = ⟨txt "OK", [txt "CB"]⟩ :: List.replicate 15 ⟨txt "OK", [txt "CB"]⟩ ∧ full.line.pfWaiting = none
      ∧ waiting.line.pfWaiting = some ⟨txt "PF", []⟩ ∧ waiting.line.report = .none ∧ waiting.seq.slip = some currentA
      ∧ waiting.inputs.gate.debounced = true ∧ waiting.lamp.state = .off ∧ waiting.store.ended.length < 32
      ∧ delayed.line.reportTimer = some 0 ∧ delayed.line.report = .delaying := by decide
/-- A PF card and a DUE report waiting together: the card takes the place, the report stays DUE. -/
theorem witness_CardSentFreesPlace_both :
    let full := fullTx (slideIn (withSlip calm))
    let s : State := { full with line := { full.line with pfWaiting := some ⟨txt "PF", []⟩, report := .due, flags := [.start] } }
    (List.replicate 15 (⟨txt "OK", [txt "CB"]⟩ : Card)).length = 15 ∧ s.line.report = .due
      ∧ (after .transmitCardSent s).line.report = .due ∧ (after .transmitCardSent s).line.tx.length = 16
      ∧ (after .transmitCardSent s).store.ended = [⟨417, .proofed, 0, 0⟩] := by decide
theorem witness_FlagsAreCleared :
    calm.line.tx.length < 16 ∧ [Flag.refused, .refused] ≠ [] ∧ [txt "ALL", txt "DOOR"] ≠ [txt "ALL"]
      ∧ (∀ f ∈ Flag.all, flagWord f ≠ txt "ALL") := by decide
/-- The last clause with a PF card that waits. -/
theorem witness_LineResetClears :
    let s := inSeq .proving (withSlip (inMode .proof calm))
    let s : State := { s with line := { s.line with pfWaiting := some ⟨txt "PF", []⟩ } }
    exposing.modes.current = .run ∧ exposing.seq.state = .exposing
      ∧ exposing.seq.set.isSome = true ∧ (inMode .hold calm).modes.current = .hold
      ∧ calm.modes.current = .setup ∧ calm.seq.state = .idle ∧ calm.lamp.state = .off ∧ calm.seq.set = none
      ∧ calm.shutter.opened = false ∧ calm.labels.feedHold = false
      ∧ s.modes.current = .proof ∧ s.seq.state = .proving ∧ s.lamp.state = .off ∧ s.seq.set = none
      ∧ s.shutter.opened = false ∧ s.labels.feedHold = false
      ∧ (after .lineReset s).line.pfWaiting.isSome = true ∧ (after .lineReset s).seq.state = .proving := by decide
theorem witness_ModeRequestJudged :
    let cal : State := { calm with meter := { calm.meter with calibrating := true } }
    exposing.line.tx.length < 16 ∧ Mode.hold ≠ .run ∧ exposing.seq.set.isSome = true ∧ exposing.seq.state ≠ .warming
      ∧ exposing.seq.state ≠ .metering ∧ exposing.seq.state ≠ .setReady
      ∧ cal.modes.current = .setup ∧ cal.meter.calibrating = true
      ∧ [txt "STOP"] ≠ [modeWord .setup] ∧ [txt "STOP"] ≠ [modeWord .run] ∧ [txt "STOP"] ≠ [modeWord .proof]
      ∧ [txt "STOP"] ≠ [modeWord .hold] := by decide
theorem witness_ModeChangeTaken :
    let run := inMode .run calm
    let park := metering .gate .sequencer 0 (-8192) (inSeq .metering (withSlip run))
    run.line.tx.length < 16 ∧ Mode.hold ≠ run.modes.current ∧ run.seq.set = none ∧ run.shutter.opened = false
      ∧ run.meter.calibrating = false ∧ run.labels.feedHold = false ∧ run.lamp.state = .off ∧ run.seq.state = .idle
      ∧ (inSeq .setReady run).seq.state = .setReady ∧ park.seq.slip = some currentA ∧ park.lamp.state = .lit
      ∧ park.lamp.user = some .sequencer ∧ 0 < cooling park
      ∧ (∀ k : Fin 8, (calm.store.rings[k]).slips = []) ∧ (inSeq .removal (withSlip calm)).seq.slip.isSome = true
      ∧ calm.inputs.gate.debounced = false ∧ (slideIn (inSeq .loading calm)).inputs.gate.debounced = true
      ∧ calm.meter.entry.warmUp ≠ 0 := by decide
/-- Between RUN and PROOF: a sequencer in METERING, and one in SET_READY with the lamp OFF and COOLING. -/
theorem witness_ModeChangeTaken_working :
    let s := inSeq .metering (withSlip (inMode .run calm))
    let w := inSeq .setReady (withSlip (inMode .proof calm))
    let c : State := { w with lamp := { coldLamp with state := .cooling } }
    Mode.proof ≠ s.modes.current ∧ s.seq.set = none ∧ s.shutter.opened = false ∧ s.seq.state ≠ .setReady ∧ s.seq.state ≠ .idle
      ∧ w.seq.slip.isSome = true ∧ w.lamp.state = .off ∧ cameraSlot w.film = none ∧ w.meter.job = none
      ∧ w.meter.entry.warmUp ≠ 0 ∧ c.lamp.state = .cooling ∧ c.lamp.user = none
      ∧ (after (.md [txt "RUN"]) w).seq.wait = some .roll ∧ (after (.md [txt "RUN"]) c).seq.wait = some .lamp
      ∧ (after (.md [txt "RUN"]) (withFilm .faultDoor (loaded c))).seq.wait = some .roll
      ∧ (after (.md [txt "PROOF"]) { w with modes := s.modes }).seq.state = .warming := by decide
/-- At a legal point inside a set: a relight in WARMING with the lamp on, and a wait on LAMP with it COOLING. -/
theorem witness_ModeChangeTaken_legalPoint :
    let w : State := { inSeq .warming exposing with shutter := ⟨false, none⟩ }
    let c : State := { w with lamp := { coldLamp with state := .cooling }, seq := { w.seq with state := .setReady, wait := some .lamp } }
    w.modes.current = .run ∧ w.seq.set = some setA ∧ setA.head = some 1 ∧ w.seq.slip = some currentA ∧ cameraSlot w.film = some 0
      ∧ w.shutter.opened = false ∧ w.labels.feedHold = false ∧ w.line.tx.length < 16 ∧ w.lamp.state = .lit
      ∧ w.lamp.user = some .sequencer ∧ w.lamp.waiting = none ∧ 0 < cooling w ∧ c.lamp.waiting = none ∧ c.seq.wait = some .lamp
      ∧ (after (.md [txt "HOLD"]) w).seq.set = none ∧ (after (.md [txt "HOLD"]) c).seq.slip.map Current.copy = some 2 := by decide
/-- Into PROOF inside a set: a wait on LAMP, and a relight's metering. -/
theorem witness_ModeChangeTaken_intoProof :
    let m := relit 20000
    let w : State := { m with lamp := { coldLamp with state := .cooling }, seq := { m.seq with state := .setReady, wait := some .lamp } }
    m.modes.current = .run ∧ m.seq.set.bind SetCtx.head = some 1 ∧ m.seq.slip = some currentA ∧ cameraSlot m.film = some 0
      ∧ slipA.cancelPending = false ∧ currentA.copy < slipA.copies ∧ m.shutter.opened = false ∧ m.labels.feedHold = false
      ∧ m.seq.state = .metering ∧ m.meter.job.map MeterJob.user = some .sequencer ∧ currentA.metered = false
      ∧ w.lamp.user = none ∧ (after (.md [txt "PROOF"]) m).seq.state = .metering
      ∧ (after (.md [txt "PROOF"]) w).seq.wait = some .lamp := by decide
/-- A change pending at BOUNDARY, taken after the last step and at a jam, and one pending at CAL. -/
theorem witness_ModeChangeTaken_pending :
    let pend (s : State) : State := { s with modes := ⟨.hold, .run, .boundary⟩ }
    let s := pend lastAdvance
    let j := pend (midAdvance 20000)
    let g := metering .gate .calibration 5 (-5) calm
    let c : State := { g with modes := ⟨.run, .setup, .cal⟩ }
    s.seq.set = some { setA with step := 3 } ∧ s.modes.change = .boundary ∧ s.modes.requested = .hold ∧ s.seq.state = .advancing
      ∧ s.film.flight.map Advance.kind = some .frame ∧ s.film.rolls[(0 : Fin 4)] = some rollA ∧ s.lamp.state = .lit
      ∧ s.lamp.waiting = none ∧ 0 < cooling s ∧ 0 < cooling (elapse (1500 * Config.ms) j)
      ∧ (after .advanceEnd s).modes.current = .hold ∧ (after .advanceEnd s).store.ended = [⟨417, .done, 0, 0⟩]
      ∧ (after .advanceTimerExpiry j).modes.current = .hold ∧ (after .advanceTimerExpiry j).film.state = .faultJam .frame
      ∧ c.modes.change = .cal ∧ c.seq.set = none ∧ 0 < cooling c ∧ (∀ k : Fin 8, (c.store.rings[k]).slips = [])
      ∧ (after .gateOverrun c).modes.current = .run ∧ (after .gateOverrun (inSeq .setReady c)).seq.state = .loading := by decide
theorem witness_PowerUpKeepsTheCell : exposing.latch = true := by decide
/-- A power-up with a roll at the lab and one MOUNTING: a set to be labelled, and no such set. -/
theorem witness_PowerUpKeepsTheCell_mounting :
    let r : Roll := { rollA with state := .mounting 5 }
    let s (d : Decision) (l : LabelState) : State :=
      { withRollIn 1 r calm with records := [{ exposedA 1 with slot := 1, decision := d, label := l }] }
    (calm.film.rolls[(0 : Fin 4)]).any Roll.isMounting = false ∧ (s .keep .spooled).film.rolls[(1 : Fin 4)] = some r
      ∧ r.isMounting = true
      ∧ ((after (.standPowerUp .b9600) (s .keep .spooled)).film.rolls[(1 : Fin 4)]).map Roll.state = some (.mounting 1)
      ∧ ((after (.standPowerUp .b9600) (s .keep .printed)).film.rolls[(1 : Fin 4)]).map Roll.state = some (.mounting 2) := by
  decide
theorem witness_CellStart : ({ calm with latch := false } : State).latch = false := by decide

/-! #### Slips and queues -/

def slCard : List Text := texts ["417", "LANG", "2", "HA-1", "Arcade", "2", "0", "1", "0", ""]
def slRead : SlipFields :=
  { number := 417, code := txt "LANG", queue := 2, catalog := txt "HA-1", title := some (txt "Arcade"), copies := 2,
    stock := 0, pattern := 1, format := 0, density := none }
def stored (n : Nat) (s : State) : State :=
  { s with store := { s.store with rings := s.store.rings.set 2 { slips := List.replicate n { slipA with number := 1 }, head := 48 } } }

theorem witness_SlipRefusedFieldOrDuplicate :
    (texts ["417"]).length < 9 ∧ natField 1 65535 (txt "65536") = none ∧ natField 1 65535 (txt "0") = none
      ∧ natField 1 9 (txt "10") = none ∧ natField 0 400 (txt "401") = none
      ∧ slipFields slCard = some slRead ∧ (calm.tables.stock[(0 : Fin 8)]).base ≠ 0 ∧ (calm.tables.stock[(7 : Fin 8)]).base = 0
      ∧ 417 ∈ slipNumbers (queued calm) ∧ 417 ∈ slipNumbers (withSlip calm) := by decide
theorem witness_SlipRefusedAccountQueueFull :
    let a := withAccount calm
    let none' : State := { a with store := { a.store with table := a.store.table.set 2 ⟨0, false⟩ } }
    a.line.tx.length < 16 ∧ slipFields slCard = some slRead ∧ (a.tables.stock[(0 : Fin 8)]).base ≠ 0 ∧ 417 ∉ slipNumbers a
      ∧ (∀ i : Fin 64, ¬ ((calm.money.accounts[i]).state = .opened ∧ (calm.money.accounts[i]).code = some (txt "LANG")))
      ∧ (a.money.accounts[(7 : Fin 64)]).state = .opened ∧ (a.money.accounts[(7 : Fin 64)]).code = some (txt "LANG")
      ∧ (none'.store.table[(2 : Fin 8)]).capacity = 0
      ∧ ((stored 16 a).store.rings[(2 : Fin 8)]).slips.length = ((stored 16 a).store.table[(2 : Fin 8)]).capacity
      ∧ 417 ∉ slipNumbers (stored 16 a) := by decide
/-- One place left in the queue. -/
theorem witness_SlipAdmitted :
    let s := stored 15 (withAccount calm)
    s.line.tx.length < 16 ∧ undisturbed s = true ∧ slipFields slCard = some slRead ∧ 417 ∉ slipNumbers s
      ∧ (s.money.accounts[(7 : Fin 64)]).state = .opened ∧ (s.money.accounts[(7 : Fin 64)]).code = some (txt "LANG")
      ∧ (∀ j : Fin 64, j < 7 → ¬ ((s.money.accounts[j]).state = .opened ∧ (s.money.accounts[j]).code = some (txt "LANG")))
      ∧ (s.store.rings[(2 : Fin 8)]).slips.length < (s.store.table[(2 : Fin 8)]).capacity := by decide
theorem witness_CancelInStore :
    let s : State := { calm with store := { calm.store with rings := calm.store.rings.set 2 ⟨[{ slipA with number := 1 }, slipA], 63⟩ } }
    s.line.tx.length < 16 ∧ undisturbed s = true ∧ NumbersLaw s ∧ oneField (natField 1 65535) [txt "417"] = some slipA.number
      ∧ (s.store.rings[(2 : Fin 8)]).slips = [{ slipA with number := 1 }] ++ slipA :: []
      ∧ ((queued calm).store.rings[(2 : Fin 8)]).slips = [] ++ slipA :: [] := by decide
theorem witness_CancelCurrentOrUnknown :
    let s := inSeq .removal (withSlip (inMode .run calm))
    oneField (natField 1 65535) [txt "0"] = none ∧ oneField (natField 1 65535) [txt "65535"] = some 65535
      ∧ 65535 ∉ slipNumbers s ∧ s.seq.slip = some currentA ∧ currentA.slip.number = 417 ∧ NumbersLaw s
      ∧ exposing.seq.set.isSome = true ∧ exposing.seq.state ≠ .idle ∧ NumbersLaw exposing ∧ exposing.seq.slip = some currentA
      ∧ s.seq.set = none ∧ s.lamp.state = .off ∧ ∀ k : Fin 8, testedHead s k = none := by decide
theorem witness_QueueTableWritten :
    let q := queued calm
    q.line.tx.length < 16 ∧ q.store.ended.length ≤ 32 ∧ finField 8 (txt "7") = some 7 ∧ finField 8 (txt "2") = some 2
      ∧ queueFields q.store.table[(2 : Fin 8)] (texts ["33", ""]) = none
      ∧ queueFields q.store.table[(2 : Fin 8)] (texts ["", "YES"]) = some ⟨16, true⟩
      ∧ queueFields q.store.table[(2 : Fin 8)] (texts ["0", ""]) = some ⟨0, false⟩
      ∧ queueFields q.store.table[(2 : Fin 8)] (texts ["32", ""]) = some ⟨32, false⟩
      ∧ q.modes.current = .setup ∧ (inMode .run q).modes.current ≠ .setup
      ∧ ((List.finRange 8).map fun j => (q.store.table[j]).capacity).sum = 96
      ∧ undisturbed q = true := by decide
/-- The last two: no head eligible by the roll test, and none by the ceiling test. -/
theorem witness_ArbiterRuns :
    let s := loaded (queued (inMode .run (withAccount calm)))
    let t : State := sends (okCard (txt "TB") [txt "RATE", natKey (txt "3") 3]) { s with money := { s.money with rates := s.money.rates.set 3 ⟨9999, 0⟩ } }
    let u := inMode .run (queued calm)
    let poor : State := { s with money := { s.money with accounts := s.money.accounts.set 7 { accountA with ceiling := 1 } } }
    s.line.tx.length < 16 ∧ s.seq.state = .idle ∧ s.modes.current = .run ∧ finField 4 (txt "3") = some 3
      ∧ rateFields s.money.rates[(3 : Fin 4)] (texts ["9999", "0"]) = some ⟨9999, 0⟩
      ∧ testedHead s 2 = some slipA ∧ eligible t slipA = true ∧ (∀ j : Fin 8, j < 2 → (testedHead s j).any (eligible t) = false)
      ∧ (∀ k : Fin 8, (testedHead u k).any (eligible u) = false)
      ∧ testedHead poor 2 = some slipA ∧ rollFits poor slipA = true ∧ ceilingFits poor slipA = false
      ∧ ∀ k : Fin 8, (testedHead poor k).any (eligible poor) = false := by decide
/-! #### The meter and the arithmetic -/

theorem witness_CalibrationAsked :
    [txt "X"] ≠ [] ∧ (inMode .run calm).modes.current ≠ .setup ∧ (slideIn calm).inputs.gate.debounced = true
      ∧ calm.meter.calibrating = false ∧ calm.meter.phase = .idle ∧ calm.inputs.gate.debounced = false
      ∧ State.reset.lamp.state = .cooling ∧ calm.lamp.state = .off ∧ calm.meter.entry.warmUp ≠ 0 ∧ calm.line.tx.length < 16 := by
  decide
theorem witness_ProbePulseCounts :
    let r (n : Nat) := metering .reference .sequencer n (-1) calm
    (r 0).meter.phase = .reference ∧ Probe.lamp = .lamp ∧ (r 16777214).meter.count < 16777215
      ∧ (r 16777215).meter.count = 16777215 ∧ (metering .gate .sequencer 16777215 (-1) calm).meter.phase = .gate
      ∧ calm.meter.phase ≠ .reference ∧ (r 0).meter.timeBase ≠ 0 := by decide
theorem witness_CalibrationOverruns :
    let c (ph : MeterPhase) (ticks : Int) := metering ph .calibration 5 ticks calm
    let r := c .reference (-1048574)
    r.meter.job = some ⟨.calibration, 65536, 16384, .slow⟩ ∧ r.lamp.state = .lit ∧ r.lamp.user = some .calibration
      ∧ r.modes.change ≠ .cal ∧ undisturbed r = true ∧ r.meter.phase = .reference ∧ 0 < cooling (elapse (untilOverrun r) r)
      ∧ (c .gate (-1)).meter.phase = .gate ∧ 0 < cooling (c .gate (-1)) := by decide
theorem witness_SlipMeteringFails :
    let c (ph : MeterPhase) (ticks : Int) := metering ph .sequencer 5 ticks (inSeq .metering (withSlip (inMode .run calm)))
    let r := c .reference (-1048574)
    r.meter.job = some ⟨.sequencer, 65536, 16384, .slow⟩ ∧ r.meter.calibrating = false ∧ r.lamp.state = .lit
      ∧ r.lamp.user = some .sequencer ∧ r.seq.state = .metering ∧ r.seq.set = none ∧ r.seq.slip = some currentA
      ∧ r.lamp.waiting = none ∧ r.shutter.opened = false ∧ r.modes.current = .run ∧ r.labels.feedHold = false
      ∧ r.meter.phase = .reference ∧ 0 < cooling (elapse (untilOverrun r) r)
      ∧ (c .gate (-1)).meter.phase = .gate ∧ 0 < cooling (c .gate (-1)) := by decide
theorem witness_CalibrationStores :
    let s := metering .gate .calibration 65536 (-8192) calm
    s.meter.phase = .gate ∧ s.meter.job = some ⟨.calibration, 65536, 16384, .slow⟩ ∧ s.lamp.state = .lit
      ∧ s.lamp.user = some .calibration ∧ s.modes.change ≠ .cal ∧ undisturbed s = true
      ∧ 0 < cooling (elapse (untilGateEnd s) s) ∧ 4096 ≤ 65536 := by decide
theorem witness_MeteringGivesFactor :
    let s := metering .gate .sequencer 8192 (-8192) (inSeq .metering (withSlip (inMode .run calm)))
    s.meter.phase = .gate ∧ s.lamp.state = .lit ∧ s.lamp.user = some .sequencer ∧ s.seq.set = none
      ∧ s.seq.slip = some currentA ∧ s.modes.current = .run ∧ cameraSlot s.film = none
      ∧ awaitsRoll (withFilm .faultDoor (loaded s)).film = true
      ∧ 0 < cooling (elapse (untilGateEnd s) s) := by decide
theorem witness_DensityTable :
    oneField (finField 100) [txt "0"] = some 0 ∧ oneField (finField 100) [txt "99"] = some 99
      ∧ oneField (finField 100) [txt "100"] = none ∧ calm.line.tx.length < 16 := by decide
theorem witness_BracketTable :
    let s := receiving ⟨'>', false⟩ ⟨.check, txt "TB", [txt "BRACKET", txt "0"], checkText (txt "TB") [txt "BRACKET", txt "0"], 20, false⟩
    oneField (intField (-6) 6) [txt "-6"] = some (-6) ∧ oneField (intField (-6) 6) [txt "+6"] = some 6
      ∧ oneField (intField (-6) 6) [txt "7"] = none ∧ s.line.rx = ⟨'>', false⟩ :: [] ∧ s.line.asm.state = .check
      ∧ s.line.asm.fields = txt "BRACKET" :: [txt "0"] ∧ s.line.asm.check = checkText s.line.asm.kind s.line.asm.fields := by
  decide
theorem witness_FactorFromMetering :
    (4096 ≤ 65536 ∧ 65536 ≤ 4194304 ∧ 8192 ≤ 16384 ∧ 16384 ≤ 65535 ∧ 8192 ≤ 16777215)
      ∧ (factorFromCounts 8192 65536 16384).mark = none ∧ (factorFromCounts 0 65536 16384).mark = some .over
      ∧ (factorFromCounts 16777215 4096 8192).mark = some .under := by decide

/-! #### The sequencer, the lamp and the inputs -/

def metered : State :=
  slideIn (loaded (metering .gate .sequencer 8192 (-8192) (inSeq .metering (withSlip (inMode .run (withAccount calm))))))
theorem witness_SetStarts :
    let s := metered
    let r := elapse (untilGateEnd s) s
    s.meter.phase = .gate ∧ s.lamp.state = .lit ∧ s.seq.set = none ∧ s.seq.slip = some currentA ∧ s.modes.current = .run
      ∧ s.film.state = .ready ∧ cameraSlot s.film = some 0 ∧ s.film.rolls[(0 : Fin 4)] = some rollA
      ∧ rollA.stock = slipA.stock ∧ s.tables.pattern[slipA.pattern] = -1 :: [0, 1] ∧ 1 ≤ rollA.next
      ∧ rollA.next + 3 ≤ rollA.capacity + 1 ∧ s.records.length + 3 ≤ 2048 ∧ ceilingFits s slipA = true
      ∧ s.shutter.opened = false ∧ s.inputs.door.debounced = false ∧ s.inputs.gate.debounced = true
      ∧ (stepTime s.tables.stock[slipA.stock] (factorFromCounts 8192 65536 16384) (-1)).time
          ≤ 10 * (guardLimitMs s - r.lamp.lit / Config.ms) := by decide
theorem witness_ExposureEnds :
    exposing.shutter.timer = some (2000 * Config.tenth) ∧ exposing.shutter.opened = true ∧ exposing.seq.state = .exposing
      ∧ exposing.seq.set = some setA ∧ exposing.film.state = .ready ∧ cameraSlot exposing.film = some 0
      ∧ exposing.film.rolls[(0 : Fin 4)] = some rollA ∧ rollA.next < rollA.capacity
      ∧ exposing.inputs.rollEnd.debounced = false ∧ recordAt 0 1 exposing.records = some (recordA 1)
      ∧ (recordA 1).kind = .exposing := by decide
/-- At the roll's last frame, and with the roll end active: a slip with a copy left, and one at its last. -/
theorem witness_ExposureEnds_stopped :
    let last := withRollIn 0 { rollA with next := 1, capacity := 1 } exposing
    let stop : State := { exposing with inputs := { exposing.inputs with rollEnd := ⟨true, true, none, false⟩ } }
    let s : State := { stop with seq := { stop.seq with slip := some { currentA with copy := 2 } } }
    stop.inputs.rollEnd.debounced = true ∧ stop.seq.slip = some currentA ∧ setA.head = some 1 ∧ stop.modes.current = .run
      ∧ stop.modes.change ≠ .boundary ∧ stop.lamp.state = .lit ∧ stop.lamp.user = some .sequencer
      ∧ stop.inputs.gate.debounced = true ∧ 0 < cooling (elapse (2000 * Config.tenth) stop) ∧ rollA.stock = slipA.stock
      ∧ (after .exposureTimerExpiry last).film.state = .suspFrames
      ∧ (after .exposureTimerExpiry stop).film.state = .suspSensor .frame
      ∧ (after .exposureTimerExpiry stop).seq.wait = some .roll
      ∧ (after .exposureTimerExpiry s).store.ended = [⟨417, .short, 0, 1⟩] := by decide
theorem witness_AdvanceEnds :
    let s := inFlight .frame (loaded calm)
    calm.film.flight = none ∧ (inFlight .leader calm).film.flight.map Advance.kind = some .leader
      ∧ undisturbed (inFlight .leader calm) = true ∧ cameraSlot s.film = some 0 ∧ s.film.rolls[(0 : Fin 4)] = some rollA
      ∧ s.seq.state ≠ .advancing ∧ undisturbed s = true := by decide
theorem witness_AdvanceEnds_awaited :
    let s := lastAdvance
    s.film.flight.map Advance.kind = some .frame ∧ s.seq.state = .advancing ∧ s.seq.set = some { setA with step := 3 }
      ∧ ({ setA with step := 3 } : SetCtx).step = setA.pattern.length ∧ setA.again = false ∧ setA.head = some 1
      ∧ s.modes.change ≠ .boundary ∧ slipA.cancelPending = false ∧ slipA.copies ≤ 2 ∧ s.lamp.state = .lit
      ∧ s.lamp.user = some .sequencer ∧ 0 < cooling s ∧ s.inputs.gate.debounced = true ∧ 0 < cooling (elapse (1500 * Config.ms) s)
      ∧ ({ s with lamp := coldLamp } : State).lamp.user ≠ some .sequencer := by decide

/-- A step that is not the last: exposed at an allowance equal to its time, and waiting on LAMP 1 ms later. -/
theorem witness_AdvanceEnds_nextStep :
    let s := midAdvance 1198000
    let beyond := midAdvance 1198010
    let room (s : State) := 10 * (guardLimitMs s - s.lamp.lit / Config.ms)
    s.seq.set = some { setA with times := List.replicate 3 ⟨2000, Marks.clear⟩ } ∧ setA.head = some 1
      ∧ s.modes.change ≠ .boundary ∧ (1 : Nat) ≠ setA.pattern.length ∧ setA.again = false
      ∧ cameraSlot s.film = some 0 ∧ s.film.rolls[(0 : Fin 4)] = some rollA ∧ rollA.next < rollA.capacity
      ∧ s.records.length < 2048 ∧ (List.replicate 3 (⟨2000, Marks.clear⟩ : StepTime))[2 - 1]? = some ⟨2000, Marks.clear⟩
      ∧ s.lamp.state = .lit ∧ room s = 2000 ∧ s.modes.current = .run ∧ s.shutter.opened = false
      ∧ s.inputs.door.debounced = false ∧ s.inputs.gate.debounced = true
      ∧ (∀ r ∈ s.records, ¬ (r.slot = 0 ∧ r.frame = rollA.next + 1))
      ∧ (after .advanceEnd s).shutter = ⟨true, some (2000 * Config.tenth)⟩ ∧ (after .advanceEnd s).seq.set.map SetCtx.step = some 2
      ∧ room beyond < 2000 ∧ currentA.fresh = false ∧ beyond.lamp.user = some .sequencer ∧ 0 < cooling beyond
      ∧ (after .advanceEnd beyond).seq.wait = some .lamp
      ∧ ({ s with lamp := { coldLamp with state := .cooling } } : State).lamp.user = none
      ∧ coldLamp.state = .off ∧ s.meter.job = none ∧ s.meter.entry.warmUp ≠ 0 := by decide
/-- The frame map full as a step begins. -/
theorem witness_AdvanceEnds_mapFull :
    let s := midAdvance 20000
    2048 ≤ (List.replicate 2048 (recordA 1)).length ∧ slipA.cancelPending = false ∧ slipA.copies ≤ 2 ∧ s.lamp.state = .lit
      ∧ s.lamp.user = some .sequencer ∧ 0 < cooling s ∧ s.inputs.gate.debounced = true := by
  simp only [List.length_replicate, Nat.le_refl, true_and]; decide

/-- The step exposed, clamped at an allowance of 20, and given up at one of 10. -/
theorem witness_AdvanceEnds_relight :
    let s := relit 20000
    let room (s : State) := 10 * (guardLimitMs s - (elapse (untilGateEnd s) s).lamp.lit / Config.ms)
    let f := factorFromCounts 8192 65536 16384
    s.meter.phase = .gate ∧ s.lamp.state = .lit ∧ s.lamp.user = some .sequencer ∧ s.seq.set.isSome = true
      ∧ s.seq.slip = some currentA ∧ cameraSlot s.film = some 0 ∧ s.film.rolls[(0 : Fin 4)] = some rollA
      ∧ s.inputs.gate.debounced = true ∧ s.modes.change ≠ .boundary ∧ s.film.state = .ready ∧ 1 ≤ rollA.next
      ∧ rollA.next ≤ rollA.capacity ∧ s.records.length < 2048 ∧ s.modes.current = .run ∧ s.shutter.opened = false
      ∧ s.inputs.door.debounced = false
      ∧ (setA.pattern.map (stepTime setA.stock f))[0]? = some ⟨1588, Marks.clear⟩
      ∧ 1588 ≤ room s ∧ (after .gatePhaseEnd s).shutter = ⟨true, some (1588 * Config.tenth)⟩
      ∧ room (relit 1199980) = 20 ∧ (after .gatePhaseEnd (relit 1199980)).shutter = ⟨true, some (10 * Config.tenth)⟩
      ∧ room (relit 1199990) = 10 ∧ slipA.cancelPending = false
      ∧ 0 < cooling (elapse (untilGateEnd (relit 1199990)) (relit 1199990))
      ∧ (after .gatePhaseEnd (relit 1199990)).store.ended = [⟨417, .guardShort, 0, 1⟩] := by decide
theorem witness_ProofMade :
    let s := inMode .proof metered
    s.meter.phase = .gate ∧ s.lamp.state = .lit ∧ s.lamp.user = some .sequencer ∧ s.lamp.waiting = none ∧ s.seq.set = none
      ∧ s.seq.slip = some currentA ∧ s.modes.current = .proof ∧ s.line.tx.length < 16 ∧ s.inputs.gate.debounced = true
      ∧ 0 < cooling (elapse (untilGateEnd s) s) := by decide
theorem witness_WarmUpEnds :
    let w (u : User) (s : State) : State := { s with lamp := { coldLamp with state := .warming, user := some u, warmUp := some 0 } }
    let s := w .sequencer (inSeq .warming (withSlip (inMode .run calm)))
    s.lamp.warmUp = some 0 ∧ s.meter.phase = .idle ∧ (w .calibration calm).lamp.user = some .calibration
      ∧ s.lamp.user = some .sequencer ∧ s.seq.state = .warming ∧ s.seq.slip = some currentA ∧ slipA.density = none := by decide
/-- A slip with a density, its lamp becoming LIT: a set starts, a proof is made, a step goes on. -/
theorem witness_WarmUpEnds_density :
    let x : Current := { currentA with slip := { slipA with density := some 0 }, factor := factorFromDensity 0 }
    let base := slideIn (loaded (inMode .run (withAccount calm)))
    let s : State := { base with
      lamp := { coldLamp with state := .warming, user := some .sequencer, warmUp := some 0, lit := 500 * Config.ms }
      seq := { base.seq with state := .warming, slip := some x } }
    let y : State := { s with seq := { s.seq with set := some { setA with times := List.replicate 3 ⟨2000, Marks.clear⟩ } } }
    let e := elapse 0 s
    FitToOpen s ∧ SetMayStart s x.slip 0 rollA ∧ s.tables.pattern[x.slip.pattern] = [-1, 0, 1] ∧ 1 ≤ rollA.next
      ∧ (∀ r ∈ s.records, ¬ (r.slot = 0 ∧ r.frame = rollA.next)) ∧ s.lamp.waiting = none
      ∧ (stepTime s.tables.stock[x.slip.stock] x.factor (-1)).time ≤ 10 * (guardLimitMs s - e.lamp.lit / Config.ms)
      ∧ (after .warmUpExpiry s).seq.state = .exposing
      ∧ (inMode .proof s).line.tx.length < 16 ∧ 0 < cooling e
      ∧ (after .warmUpExpiry (inMode .proof s)).store.ended = [⟨417, .proofed, 0, 0⟩]
      ∧ y.seq.set.bind SetCtx.head = some 1 ∧ rollA.next ≤ rollA.capacity ∧ y.records.length < 2048
      ∧ (setA.pattern.map (stepTime setA.stock x.factor))[0]?.map StepTime.time = some 198
      ∧ (after .warmUpExpiry y).shutter.opened = true := by
  refine ⟨⟨?_, ?_, ?_, ?_⟩, ⟨?_, ?_, ?_, ?_, ?_, ?_⟩, ?_⟩ <;> decide
/-- A wait outside a set at the cool-down's end: with no roll, another stock, a jam, too few frames, and every check passing. -/
theorem witness_CoolDownEnds_outside :
    let w (s : State) : State := { inSeq .setReady (withSlip (inMode .run (withAccount s))) with
      lamp := { coldLamp with state := .cooling, coolDown := some 5 } }
    let s := w (loaded calm)
    let t (r : Roll) (f : FilmState) : State := w (withRollIn 0 r { calm with film := { calm.film with state := f } })
    s.seq.set = none ∧ s.seq.slip = some currentA ∧ s.lamp.waiting = none ∧ (inMode .proof s).meter.job = none
      ∧ SetMayStart s slipA 0 rollA ∧ s.meter.entry.warmUp ≠ 0 ∧ (after .coolDownExpiry s).seq.state = .warming
      ∧ (after .coolDownExpiry (inMode .proof s)).seq.state = .warming
      ∧ cameraSlot (w calm).film = none ∧ (after .coolDownExpiry (w calm)).seq.wait = some .roll
      ∧ (after .coolDownExpiry (t { rollA with stock := 1 } .ready)).seq.wait = some .stock
      ∧ awaitsRoll (t { rollA with stock := 1 } .ready).film = false ∧ awaitsRoll (t { rollA with stock := 1 } .faultDoor).film = true
      ∧ (after .coolDownExpiry (t { rollA with stock := 1 } .faultDoor)).seq.wait = some .roll
      ∧ (after .coolDownExpiry (t rollA (.faultJam .frame))).seq.wait = some .transport
      ∧ (after .coolDownExpiry (t rollA .suspLost)).seq.wait = some .roll
      ∧ (after .coolDownExpiry (t { rollA with next := 799 } .ready)).film.state = .suspFrames
      ∧ 800 + 1 < 799 + (s.tables.pattern[slipA.pattern]).length
      ∧ ceilingFits (w { loaded calm with money := { calm.money with rates := calm.money.rates } }) slipA = true := by
  refine ⟨?_, ?_, ?_, ?_, ⟨?_, ?_, ?_, ?_, ?_, ?_⟩, ?_⟩ <;> decide
/-- Checks 5 and 6: the frame map full, and a ceiling below the set's fees. -/
theorem witness_CoolDownEnds_mapAndCeiling :
    let s := inSeq .setReady (withSlip (inMode .run (withAccount (loaded calm))))
    let a : State := { s with money := { s.money with accounts := s.money.accounts.set 7 { accountA with ceiling := 1 } } }
    2048 < (List.replicate 2048 (recordA 1)).length + (s.tables.pattern[slipA.pattern]).length ∧ ceilingFits a slipA = false := by
  simp only [List.length_replicate]; decide
theorem witness_CoolDownEnds :
    let c (s : State) : State := { s with lamp := { coldLamp with state := .cooling, coolDown := some 5 } }
    let s := loaded (inSetA (inMode .run (c calm)))
    let s' : State := { s with seq := { s.seq with state := .setReady, wait := some .lamp } }
    (c calm).lamp.coolDown = some 5 ∧ (c calm).lamp.waiting = none ∧ (c calm).seq.state ≠ .setReady
      ∧ ({ coldLamp with waiting := some .calibration } : Lamp).waiting = some .calibration ∧ calm.meter.entry.warmUp ≠ 0
      ∧ s'.seq.state = .setReady ∧ s'.seq.wait = some .lamp ∧ s'.seq.set = some setA ∧ s'.seq.slip = some currentA
      ∧ s'.film.state = .ready ∧ cameraSlot s'.film = some 0 ∧ s'.film.rolls[(0 : Fin 4)] = some rollA
      ∧ rollA.next ≤ rollA.capacity ∧ s'.records.length < 2048 ∧ s'.meter.job = none ∧ s'.modes.change ≠ .boundary := by decide
theorem witness_GuardExpires :
    let cal := metering .gate .calibration 0 (-5) calm
    let m := metering .gate .sequencer 0 (-5) (inSeq .metering (withSlip (inMode .run calm)))
    let a := midAdvance 20000
    calm.lamp.state ≠ .lit
      ∧ cal.lamp.state = .lit ∧ cal.stand.coolDown ≠ 0 ∧ cal.lamp.user = some .calibration ∧ cal.lamp.waiting = none
      ∧ cal.shutter.opened = false ∧ cal.modes.change ≠ .cal
      ∧ m.lamp.user = some .sequencer ∧ m.seq.state = .metering ∧ m.seq.set = none ∧ m.shutter.opened = false
      ∧ (relit 20000).seq.set.isSome = true ∧ (relit 20000).modes.change ≠ .boundary ∧ (relit 20000).seq.state = .metering
      ∧ a.lamp.state = .lit ∧ a.lamp.user = some .sequencer ∧ a.shutter.opened = false ∧ a.seq.state = .advancing
      ∧ exposing.lamp.user = some .sequencer ∧ exposing.shutter.opened = true ∧ exposing.seq.state = .exposing
      ∧ exposing.seq.set = some setA ∧ exposing.film.state = .ready ∧ cameraSlot exposing.film = some 0
      ∧ rollA.next < rollA.capacity ∧ exposing.inputs.rollEnd.debounced = false := by decide
/-- In RUN, the limit brought exactly to the lit time. -/
theorem witness_GuardExpires_write :
    let s := metering .gate .sequencer 0 (-5) (inSeq .metering (withSlip (inMode .run calm)))
    let card := texts ["", "", "", "1", "2", "", "", "", "", "", "", "", ""]
    let x : StandEntry := { s.stand with guardLimit := 2 }
    finField 1 (txt "0") = some 0 ∧ standFields s.stand card = some x ∧ s.line.tx.length < 16
      ∧ s.meter.entry.warmUp * 10 + 1000 ≤ x.guardLimit * x.guardUnit * 1000 ∧ x.guardLimit ≠ s.stand.guardLimit
      ∧ x.guardLimit * x.guardUnit * 1000 = s.lamp.lit / Config.ms ∧ x.coolDown ≠ 0 ∧ s.lamp.user = some .sequencer
      ∧ s.seq.state = .metering ∧ s.seq.set = none ∧ s.shutter.opened = false ∧ s.modes.current = .run := by decide
theorem witness_InputsDebounced :
    calm.inputs.door.timer = none ∧ (pressed .pause true calm).inputs.pause = ⟨true, false, some (10 * Config.ms), false⟩
      ∧ ({ calm with inputs := calm.inputs.put .mark ⟨true, true, some 0, false⟩ } : State).inputs.mark.timer = some 0 := by decide
theorem witness_EdgesReachTheirBlocks :
    let m := pressed .mark true (inFlight .leader calm)
    let r := pressed .rollEnd true (inFlight .frame calm)
    let p := pressed .pause true { exposing with shutter := ⟨false, none⟩ }
    let g := pressed .gate true (inSeq .loading (withSlip (inMode .run calm)))
    let d := pressed .door false { calm with film := { calm.film with state := .loading } }
    m.shutter.opened = false ∧ m.inputs.mark.timer = some (10 * Config.ms) ∧ m.inputs.mark.raw = !m.inputs.mark.debounced
      ∧ m.film.flight.map Advance.edge = some m.stand.markEdge ∧ (m.stand.markEdge = .rise) ∧ undisturbed m = true
      ∧ r.inputs.rollEnd.timer = some (10 * Config.ms) ∧ r.inputs.rollEnd.raw = true ∧ r.inputs.rollEnd.debounced = false
      ∧ r.film.flight.isSome ∧ r.seq.state ≠ .advancing ∧ undisturbed r = true
      ∧ p.inputs.pause.timer = some (10 * Config.ms) ∧ p.inputs.pause.raw = true ∧ p.modes.current = .run ∧ p.seq.set.isSome
      ∧ p.seq.state = .exposing ∧ (pressed .pause false calm).inputs.pause.raw = false
      ∧ g.inputs.gate.timer = some (10 * Config.ms) ∧ g.inputs.gate.raw = true ∧ g.inputs.gate.debounced = false ∧ g.seq.state = .loading
      ∧ g.modes.current = .run ∧ g.meter.calibrating = false ∧ g.lamp.state = .off ∧ g.meter.entry.warmUp ≠ 0
      ∧ d.inputs.door.timer = some (10 * Config.ms) ∧ d.inputs.door.raw = false ∧ d.inputs.door.debounced = true
      ∧ d.film.state = .loading ∧ d.film.flight = none ∧ d.inputs.rollEnd.debounced = false ∧ undisturbed d = true := by decide
/-- A pause with the shutter OPEN, and a slide put in during a calibration. -/
theorem witness_EdgesReachTheirBlocks_openAndCal :
    let p := pressed .pause true exposing
    let c := pressed .gate true (lit .calibration { calm with meter := { calm.meter with calibrating := true } })
    p.shutter.opened = true ∧ p.lamp.state = .lit ∧ p.modes.current = .run ∧ p.film.state = .ready
      ∧ p.inputs.door.debounced = false ∧ p.inputs.gate.debounced = true ∧ p.seq.set.isSome = true
      ∧ (after (.debounceExpiry .pause) p).shutter.opened = true ∧ (after (.debounceExpiry .pause) p).modes.change = .boundary
      ∧ c.meter.calibrating = true ∧ c.modes.change ≠ .cal ∧ c.modes.current = .setup ∧ c.lamp.user = some .calibration
      ∧ 0 < cooling (elapse (10 * Config.ms) c) ∧ (after (.debounceExpiry .gate) c).meter.calibrating = false := by decide
/-- The original taken out in REMOVAL, with a slip and with none, in METERING at a set start, in WARMING with the request
waiting, and during an advance, a copy left and none. -/
theorem witness_EdgesReachTheirBlocks_removal :
    let g (s : State) : State := { s with inputs := { s.inputs with gate := ⟨false, true, some (10 * Config.ms), false⟩ } }
    let run := inMode .run calm
    let m := g (metering .gate .sequencer 5 (-5) (inSeq .metering (withSlip run)))
    let w := g (inSeq .warming (withSlip { run with lamp := { coldLamp with state := .cooling, waiting := some .sequencer } }))
    let a := g (midAdvance 20000)
    let b : State := { a with seq := { a.seq with slip := some currentA } }
    let out (s : State) := after (.debounceExpiry .gate) s
    m.inputs.gate.timer = some (10 * Config.ms) ∧ m.modes.change ≠ .boundary ∧ (∀ k : Fin 8, testedHead run k = none)
      ∧ (out (g (inSeq .removal (withSlip run)))).seq.state = .loading ∧ (out (g (inSeq .removal run))).seq.state = .idle
      ∧ m.lamp.state = .lit ∧ m.lamp.user = some .sequencer ∧ m.lamp.waiting = none ∧ 0 < cooling (elapse (10 * Config.ms) m)
      ∧ (out m).seq.state = .loading ∧ (out m).lamp.state = .cooling ∧ w.lamp.waiting = some .sequencer
      ∧ (out w).lamp.waiting = none ∧ (out (g (inSeq .setReady (withSlip run)))).seq.state = .loading
      ∧ b.seq.set.bind SetCtx.head = some 1 ∧ currentA.copy < slipA.copies ∧ (out b).seq.state = .loading
      ∧ (out b).film.flight.isSome = true ∧ (out a).seq.state = .idle ∧ (out a).store.ended = [⟨417, .short, 0, 1⟩] := by decide
/-- The door opened with no roll, during a leader advance, outside a set, and during an advance inside one with the lamp
lit, OFF and COOLING. -/
theorem witness_EdgesReachTheirBlocks_door :
    let out (s : State) := after (.debounceExpiry .door) s
    let l := pressed .door true (inFlight .leader (withRollIn 0 rollA calm))
    let r := pressed .door true (loaded calm)
    let a := pressed .door true (midAdvance 20000)
    let b : State := { a with seq := { a.seq with slip := some currentA } }
    let cold : State := { b with lamp := coldLamp }
    let cool : State := { b with lamp := { coldLamp with state := .cooling } }
    (out (pressed .door true calm)).film.state = .noRoll ∧ l.film.flight.isSome = true ∧ undisturbed l = true
      ∧ (out l).film.flight = none ∧ r.film.state = .ready ∧ r.seq.set = none ∧ undisturbed r = true
      ∧ (out r).film.state = .faultDoor ∧ b.seq.state = .advancing ∧ slipA.cancelPending = false ∧ currentA.copy < slipA.copies
      ∧ cool.lamp.user ≠ some .sequencer ∧ 0 < cooling (elapse (10 * Config.ms) b)
      ∧ (out b).seq.wait = some .roll ∧ (out b).lamp.state = .cooling ∧ (out cold).seq.wait = some .roll
      ∧ (out cool).seq.wait = some .roll := by decide
/-- R106, R148 step 5: a door opened in a TRANSPORT wait with the lamp COOLING, in a STOCK wait, and in a LAMP wait. -/
theorem test_door_shows_roll :
    let cool (s : State) : State := { s with lamp := { coldLamp with state := .cooling } }
    let waits (w : WaitCause) (s : State) : State := { s with seq := { s.seq with state := .setReady, wait := some w } }
    let jam := cool (waits .transport (inSetA (inMode .run (withFilm (.faultJam .frame) (loaded calm)))))
    let stock := waits .stock (withSlip (inMode .run (withRollIn 0 { rollA with stock := 1 } (withFilm .ready calm))))
    let lamp := cool (waits .lamp (withSlip (inMode .run (loaded calm))))
    let out (s : State) := (after (.debounceExpiry .door) (pressed .door true s)).seq
    jam.lamp.user ≠ some .sequencer ∧ (out jam).wait = some .roll ∧ (out jam).set = none
      ∧ cameraSlot stock.film = some 0 ∧ (out stock).wait = some .roll ∧ (out lamp).wait = some .roll := by decide
/-- R106: ROLL goes on while the transport is NO_ROLL and LOADING, and ends at frame 1; a UL card in a TRANSPORT wait, and
one in a LAMP wait. -/
theorem test_roll_awaited :
    let cool (s : State) : State := { s with lamp := { coldLamp with state := .cooling } }
    let waits (w : WaitCause) (s : State) : State := { s with seq := { s.seq with state := .setReady, wait := some w } }
    let s := cool (waits .roll (withSlip (inMode .run (withFilm .faultDoor (loaded calm)))))
    let u := after (.ul []) s
    let r := after (.rl (texts ["13", "0", "100"])) u
    let jam := cool (waits .transport (inSetA (inMode .run (withFilm (.faultJam .frame) (loaded calm)))))
    let lamp := cool (waits .lamp (withSlip (inMode .run (loaded calm))))
    s.lamp.user = none ∧ u.seq.wait = some .roll ∧ u.film.state = .noRoll ∧ r.seq.wait = some .roll ∧ r.film.state = .loading
      ∧ (after .advanceEnd r).seq.wait = some .lamp ∧ (after (.ul []) jam).seq.wait = some .roll
      ∧ (after (.ul []) jam).seq.set = none ∧ (after (.ul []) lamp).seq.wait = some .lamp := by decide
theorem witness_ConditionCeasesClosesShutter :
    let g : State := { exposing with inputs := { exposing.inputs with gate := ⟨false, true, some (10 * Config.ms), false⟩ } }
    let d := pressed .door true exposing
    g.shutter.opened = true ∧ g.seq.state = .exposing ∧ g.seq.set = some setA ∧ setA.head = some 1 ∧ g.seq.slip = some currentA
      ∧ g.modes.current = .run ∧ g.modes.change ≠ .boundary ∧ slipA.cancelPending = false ∧ currentA.copy < slipA.copies
      ∧ g.lamp.state = .lit ∧ g.lamp.user = some .sequencer ∧ g.film.state = .ready ∧ g.film.flight = none
      ∧ cameraSlot g.film = some 0 ∧ g.film.rolls[(0 : Fin 4)] = some rollA
      ∧ g.meter.calibrating = false ∧ 0 < cooling (elapse (10 * Config.ms) g) ∧ g.inputs.gate.timer = some (10 * Config.ms)
      ∧ g.inputs.gate.raw = false ∧ g.inputs.gate.debounced = true
      ∧ d.inputs.door.timer = some (10 * Config.ms) ∧ d.inputs.door.raw = true ∧ d.inputs.door.debounced = false := by decide
/-- R96, R141, R155: the film moves past a frame spoiled by the removal, or finds that it was the last. -/
theorem test_removal_advances_the_film :
    let g (s : State) : State := { s with inputs := { s.inputs with gate := ⟨false, true, some (10 * Config.ms), false⟩ } }
    let last := withRollIn 0 { rollA with next := 800 } exposing
    (after (.debounceExpiry .gate) (g exposing)).film.state = .advancing
      ∧ ((after (.debounceExpiry .gate) (g exposing)).records.map Record.kind) = [.spoiled]
      ∧ (after (.debounceExpiry .gate) (g last)).film.state = .suspFrames
      ∧ ((after (.debounceExpiry .gate) (g last)).film.rolls[(0 : Fin 4)]).map Roll.next = some 801 := by decide

/-! #### Film, frames, labels, accounts, tables, queries -/
/-- Frames 1 and 2, one set, on the MOUNTING roll of slot 0, its cursor at `c`; frame 1 with a label state. -/
def mountingAt (c : Nat) (d : Decision) (l : LabelState) : State :=
  { withAccount (withRollIn 0 { rollA with state := .mounting c } calm) with
    records := [{ exposedA 1 with decision := d, label := l }, { exposedA 2 with decision := if d = .keep then .discard else d }] }

theorem witness_RollLoadedAndUnloaded :
    let four := withRollIn 0 rollA (withRollIn 1 rollA (withRollIn 2 rollA (withRollIn 3 rollA calm)))
    rollFields (texts ["12", "0", "19"]) = none ∧ rollFields (texts ["12", "0", "20"]) = some (12, 0, 20)
      ∧ rollFields (texts ["9999", "7", "800"]) = some (9999, 7, 800) ∧ (calm.tables.stock[(7 : Fin 8)]).base = 0
      ∧ (calm.tables.stock[(0 : Fin 8)]).base ≠ 0 ∧ (loaded calm).film.state ≠ .noRoll ∧ calm.film.state = .noRoll
      ∧ (∀ i : Fin 4, four.film.rolls[i] ≠ none) ∧ calm.film.rolls[(0 : Fin 4)] = none
      ∧ (∃ j : Fin 4, ((withRollIn 1 rollA calm).film.rolls[j]).map Roll.number = some 12)
      ∧ (∀ j : Fin 4, (calm.film.rolls[j]).map Roll.number ≠ some 12) ∧ undisturbed calm = true
      ∧ exposing.film.state ≠ .noRoll ∧ exposing.seq.set.isSome = true ∧ exposing.seq.state ≠ .setReady
      ∧ (loaded calm).seq.set = none ∧ cameraSlot (loaded calm).film = some 0
      ∧ (loaded calm).film.rolls[(0 : Fin 4)] = some rollA ∧ undisturbed (loaded calm) = true := by decide
theorem witness_RollReturnedOrDropped :
    let away := withRollIn 2 { rollA with state := .away } calm
    let held : State := { away with labels := { away.labels with feedHold := true }, records := [{ exposedA 1 with slot := 2 }] }
    let busy : State := { away with labels := { away.labels with printer := .sent, spool := [{ labelA with slot := 2 }] } }
    oneField (natField 1 9999) [txt "10000"] = none ∧ oneField (natField 1 9999) [txt "9999"] = some 9999
      ∧ oneField (natField 1 9999) [txt "12"] = some 12 ∧ (∀ i : Fin 4, (away.film.rolls[i]).map Roll.number ≠ some 9999)
      ∧ holdsRoll away.film 12 2 { rollA with state := .away } ∧ holdsRoll (loaded calm).film 12 0 rollA ∧ rollA.state ≠ .away
      ∧ mountingSlot (withRollIn 0 { rollA with state := .mounting 1, number := 5 } away).film ≠ none ∧ undisturbed away = true
      ∧ mountingSlot held.film = none ∧ held.film.order = [] ∧ held.labels.feedHold = true
      ∧ exposedOf 2 1 held.records = 1 ∧ (exposedA 1).label ≠ .printed
      ∧ (loaded calm).film.state ≠ .faultDoor ∧ busy.labels.printer = .sent
      ∧ (busy.labels.spool.head?.any fun l => decide (l.slot = 2)) = true
      ∧ ({ rollA with state := .away } : Roll).isMounting = false := by decide
/-- With none MOUNTING and the feed hold off the returned roll becomes MOUNTING and is fed; with its one frame SPOILED it
closes out at once. A MOUNTING roll dropped. -/
theorem witness_RollReturnedOrDropped_handOver :
    let away (x : Record) : State := { withRollIn 2 { rollA with state := .away } calm with records := [{ x with slot := 2 }] }
    let s := away (exposedA 1)
    let void := away { recordA 1 with kind := .spoiled }
    let m := mountingAt 1 .undecided .none
    holdsRoll s.film 12 2 { rollA with state := .away } ∧ mountingSlot s.film = none ∧ FramesApart s ∧ undisturbed s = true
      ∧ ((after (.rt [txt "12"]) s).film.rolls[(2 : Fin 4)]).map Roll.state = some (.mounting 2)
      ∧ (after (.rt [txt "12"]) s).labels.spool.length = 1
      ∧ (after (.rt [txt "12"]) void).film.rolls[(2 : Fin 4)] = none
      ∧ holdsRoll m.film 12 0 { rollA with state := .mounting 1 } ∧ ({ rollA with state := .mounting 1 } : Roll).isMounting = true
      ∧ FramesApart m ∧ undisturbed m = true ∧ m.labels.printer = .ready := by decide
theorem witness_RollReturnedOrDropped_balance : BalanceLaw (withRollIn 2 { rollA with state := .away } calm) := by
  unfold BalanceLaw; decide
theorem witness_StoppedFilmRetried :
    let f (st : FilmState) : State := { loaded calm with film := { (loaded calm).film with state := st } }
    let w : State := { inSetA (f (.faultJam .frame)) with seq := { (inSetA calm).seq with state := .setReady, wait := some .transport } }
    [txt "X"] ≠ [] ∧ (f .ready).film.state ≠ .suspLost ∧ (pressed .door false (f .suspLost)).inputs.door.debounced = true
      ∧ (pressed .rollEnd false (f (.suspSensor .frame))).inputs.rollEnd.debounced = true
      ∧ (f (.faultJam .leader)).inputs.rollEnd.debounced = false ∧ (f (.faultJam .leader)).inputs.door.debounced = false
      ∧ (f (.suspSensor .frame)).seq.set = none ∧ undisturbed (f (.suspSensor .frame)) = true
      ∧ w.seq.set.isSome = true ∧ w.seq.state = .setReady ∧ w.seq.wait = some .transport
      ∧ cameraSlot (f .suspLost).film = some 0 ∧ (f .suspLost).film.rolls[(0 : Fin 4)] = some rollA
      ∧ rollA.next < rollA.capacity := by decide
theorem witness_FrameDecided :
    let s : State := { withRollIn 0 { rollA with state := .returned } calm with records := [exposedA 1, exposedA 2] }
    keepFields (texts ["12", "801", "KEEP"]) = none ∧ keepFields (texts ["12", "2", "KEEP"]) = some (12, 2, true)
      ∧ keepFields (texts ["12", "800", "NONE"]) = some (12, 800, false)
      ∧ (∀ i : Fin 4, (calm.film.rolls[i]).map Roll.number ≠ some 12)
      ∧ holdsRoll (loaded calm).film 12 0 rollA ∧ rollA.state = .camera
      ∧ holdsRoll s.film 12 0 { rollA with state := .returned } ∧ (∀ x ∈ s.records, ¬ (x.slot = 0 ∧ x.frame = 800))
      ∧ s.records = [exposedA 1] ++ exposedA 2 :: [] ∧ (exposedA 2).slot = 0 ∧ (exposedA 2).frame = 2
      ∧ (∀ y ∈ [exposedA 1], ¬ (y.slot = 0 ∧ y.frame = 2)) ∧ (∀ y ∈ s.records, y.label = .none)
      ∧ (exposedA 2).kind = .exposed ∧ (recordA 2).kind ≠ .exposed
      ∧ ({ exposedA 1 with label := .spooled } : Record).label ≠ .none := by decide

/-- On the MOUNTING roll: the cursor just above the set's head, a label SPOOLED, and a set still to be decided, whose
decision feeds a label (R172: its two lines) or closes the roll out. -/
theorem witness_FrameDecided_mounting :
    let s := mountingAt 1 .undecided .none
    let kept := after (.kp (texts ["12", "2", "KEEP"])) s
    let closed := after (.kp (texts ["12", "1", "NONE"])) s
    holdsRoll s.film 12 0 { rollA with state := .mounting 1 } ∧ (exposedA 2).head < 2
      ∧ (mountingAt 2 .keep .none).line.tx.length < 16
      ∧ (lastCard (after (.kp (texts ["12", "2", "NONE"])) (mountingAt 2 .discard .none))).map (·.take 12) = some (txt "<NO|KP|12|2|")
      ∧ (mountingAt 1 .keep .spooled).records.any (fun y => decide (y.label ≠ .none)) = true
      ∧ mountingSlot s.film = some 0 ∧ FramesApart s ∧ undisturbed s = true
      ∧ kept.labels.spool = [⟨0, 2, texts ["HA-1 1/2", "", ""]⟩] ∧ kept.labels.printer = .sending
      ∧ (kept.film.rolls[(0 : Fin 4)]).map Roll.state = some (.mounting 3)
      ∧ closed.film.rolls[(0 : Fin 4)] = none ∧ closed.records = [] ∧ Flag.closed ∈ closed.line.flags := by decide
theorem witness_FrameDecided_balance : BalanceLaw (mountingAt 1 .undecided .none) := by unfold BalanceLaw; decide
theorem witness_LabelLine :
    (printing .sent [labelA]).labels.printer = .sent ∧ (printing (.stopped .silent) []).labels.printer = .stopped .silent
      ∧ (printing .ready []).labels.printer ≠ .sent ∧ (printing .sending [labelA]).labels.printer = .sending
      ∧ calm.labels.feedHold = false ∧ mountingSlot calm.film = none ∧ calm.labels.printer = .ready
      ∧ (printing .retry []).labels.printer = .retry
      ∧ (printing .sent [labelA]).labels.timeout = some (5000 * Config.ms)
      ∧ ({ (printing .retry []).labels with retry := some 0 } : Labels).retry = some 0 := by decide
/-- A label of the MOUNTING roll accepted with the feed hold off: the roll closes out. The empty spool, and R in READY. -/
theorem witness_LabelAccepted :
    let m := mountingAt 3 .keep .spooled
    let s : State := { m with labels := { m.labels with printer := .sent, spool := [labelA], timeout := some (5000 * Config.ms) } }
    let r : Record := { exposedA 1 with label := .spooled, decision := .keep }
    let t := after .printerAnswerA s
    let held : State := { mountingAt 1 .keep .none with labels := { calm.labels with feedHold := true } }
    s.labels.printer = .sent ∧ undisturbed s = true ∧ (printing .sent []).labels.spool = [] ∧ s.labels.spool = labelA :: []
      ∧ s.labels.feedHold = false ∧ FramesApart s ∧ r ∈ s.records ∧ r.slot = labelA.slot ∧ r.frame = labelA.frame
      ∧ r.label = .spooled ∧ r.head = 1 ∧ r.data.isSome = true ∧ (∀ y ∈ s.records, y.data = none ∨ y = r)
      ∧ mountingSlot s.film = some 0 ∧ t.records = [] ∧ mountingSlot t.film = none ∧ t.labels.printer = .ready
      ∧ (t.money.accounts[(7 : Fin 64)]).final = 300 + 2 * 120
      ∧ held.labels.printer = .ready ∧ held.labels.feedHold = true ∧ FramesApart held ∧ undisturbed held = true
      ∧ (after .printerAnswerR held).labels.printer = .sending := by decide
theorem witness_LabelAccepted_balance : BalanceLaw (mountingAt 3 .keep .spooled) := by unfold BalanceLaw; decide
theorem witness_AccountSettled :
    let s := withAccount calm
    oneField codeField [txt "LAN"] = none ∧ oneField codeField [txt "LANG"] = some (txt "LANG")
      ∧ (∀ i : Fin 64, ¬ ((calm.money.accounts[i]).state ≠ .free ∧ (calm.money.accounts[i]).code = some (txt "LANG")))
      ∧ (s.money.accounts[(7 : Fin 64)]).state ≠ .free ∧ (s.money.accounts[(7 : Fin 64)]).code = some (txt "LANG")
      ∧ (∀ j : Fin 64, j < 7 → ¬ ((s.money.accounts[j]).state ≠ .free ∧ (s.money.accounts[j]).code = some (txt "LANG")))
      ∧ undisturbed s = true ∧ s.line.tx.length < 16 := by decide
/-- The guard limit at the least that a warm-up of 500 ms admits in whole seconds, and one below it. -/
theorem witness_TablesWritten :
    let stand (limit : String) := standFields calm.stand (texts ["", "", "", "", limit, "", "", "", "", "", "", "", ""])
    finField 1 (txt "1") = none ∧ finField 4 (txt "4") = none ∧ finField 8 (txt "8") = none ∧ finField 16 (txt "16") = none
      ∧ finField 64 (txt "64") = none ∧ finField 1 (txt "0") = some 0 ∧ stand "0" = none
      ∧ stand "2" = some { calm.stand with guardLimit := 2 } ∧ calm.meter.entry.warmUp * 10 + 1000 ≤ 2 * 1 * 1000
      ∧ stand "1" = some { calm.stand with guardLimit := 1 } ∧ 1 * 1 * 1000 < calm.meter.entry.warmUp * 10 + 1000
      ∧ calm.lamp.state = .off ∧ undisturbed calm = true ∧ calm.line.tx.length < 16 := by decide
theorem witness_TablesWritten_meter :
    let m (f : List String) := meterFields calm.meter.entry (texts f)
    m ["4095", "", "", ""] = none ∧ m ["4096", "", "", ""] = some { calm.meter.entry with refCount := 4096 }
      ∧ m ["", "", "", ""] = some calm.meter.entry ∧ m ["", "", "", "255"] = some { calm.meter.entry with warmUp := 255 }
      ∧ 3 * 1000 < 255 * 10 + 1000 ∧ (inMode .run calm).modes.current ≠ .setup ∧ calm.modes.current = .setup
      ∧ calm.meter.calibrating = false := by decide
theorem witness_TablesWritten_entries :
    let s := loaded (queued (withAccount calm))
    stockFields s.tables.stock[(0 : Fin 8)] (texts ["", "65536", "", "", "", ""]) = none
      ∧ stockFields s.tables.stock[(0 : Fin 8)] (texts ["", "0", "", "", "", ""]) = some { s.tables.stock[(0 : Fin 8)] with base := 0 }
      ∧ someSlip s (·.stock = 0) ∧ ¬ someSlip calm (·.stock = 0)
      ∧ ((cameraSlot s.film).bind fun j => (s.film.rolls[j]).map Roll.stock) = some 0
      ∧ formatFields s.labels.formats[(7 : Fin 8)] (texts ["11", "", "", "", ""]) = none
      ∧ formatFields s.labels.formats[(7 : Fin 8)] (texts ["12", "", "", "", ""]) = some { FormatEntry.default with width := 12 }
      ∧ patternFields s.tables.pattern[(15 : Fin 16)] [txt "0 0"] = none
      ∧ patternFields s.tables.pattern[(15 : Fin 16)] [txt "-6 +6"] = some [-6, 6]
      ∧ rateFields s.money.rates[(3 : Fin 4)] (texts ["10000", ""]) = none
      ∧ rateFields s.money.rates[(3 : Fin 4)] (texts ["9999", ""]) = some ⟨9999, 0⟩ := by decide
theorem witness_TablesWritten_account :
    let s := queued (withAccount calm)
    let read (i : Fin 64) (f : List String) := accountFields s.money.accounts[i] (texts f)
    read 63 ["LAN", "", "", "", ""] = none ∧ read 63 ["", "", "", "", "OPEN"] = some { Account.blank with state := .opened }
      ∧ read 7 ["HIST", "", "", "", ""] = some { accountA with code := some (txt "HIST") } ∧ someSlip s (·.account = 7)
      ∧ read 63 ["LANG", "", "", "", "OPEN"] = some { Account.blank with code := some (txt "LANG"), state := .opened }
      ∧ (s.money.accounts[(7 : Fin 64)]).state ≠ .free ∧ (s.money.accounts[(7 : Fin 64)]).code = some (txt "LANG")
      ∧ read 63 ["HIST", "", "", "", "OPEN"] = some { Account.blank with code := some (txt "HIST"), state := .opened }
      ∧ (∀ j : Fin 64, (s.money.accounts[j]).code ≠ some (txt "HIST")) ∧ undisturbed s = true := by decide
theorem witness_QueriesAnswered :
    let q := queued calm
    calm.line.tx.length < 16 ∧ [txt "X"] ≠ [] ∧ oneField (finField 8) [txt "8"] = none ∧ oneField (finField 8) [txt "7"] = some 7
      ∧ oneField (natField 1 65535) [txt "0"] = none ∧ oneField (natField 1 65535) [txt "417"] = some 417
      ∧ 417 ∉ slipNumbers calm ∧ NumbersLaw q ∧ (q.store.rings[(2 : Fin 8)]).slips = [] ++ slipA :: []
      ∧ NumbersLaw (withSlip calm) ∧ (withSlip calm).seq.slip = some currentA ∧ currentA.slip.number = 417
      ∧ oneField (natField 1 9999) [txt "12"] = some 12 ∧ holdsRoll (loaded calm).film 12 0 rollA
      ∧ (∀ i : Fin 4, (calm.film.rolls[i]).map Roll.number ≠ some 12)
      ∧ framesArgs (texts ["12", "1", "800"]) = some (12, 1, 800) ∧ framesArgs (texts ["12", "2", "1"]) = none
      ∧ finField 64 (txt "63") = some 63 ∧ finField 64 (txt "64") = none ∧ txt "FEES" ∉ [txt "RATE", txt "BRACKET"] := by decide

/-! #### Laws -/

/-- A metering's end opens the shutter. -/
theorem witness_ShutterOpensOnlyWhenFit :
    metered.shutter.opened = false ∧ (after .gatePhaseEnd metered).shutter.opened = true := by decide
/-- A state that meets the law with the shutter closed, and one with it OPEN. -/
theorem witness_ShutterOpensOnlyWhenFit_law :
    LampLaw metered ∧ ShutterLaw metered ∧ LampLaw exposing ∧ ShutterLaw exposing ∧ exposing.shutter.opened = true := by
  refine ⟨⟨?_, ?_⟩, ⟨?_, ?_, ?_, ?_, ?_, ?_, ?_, ?_, ?_⟩, ⟨?_, ?_⟩, ⟨?_, ?_, ?_, ?_, ?_, ?_, ?_, ?_, ?_⟩, ?_⟩
  all_goals decide
/-- A state at several capacities at once, a card leaving it. -/
theorem witness_CapacityKept : WithinCapacity (fullTx { calm with store := { calm.store with ended := List.replicate 32 ⟨1, .done, 1, 0⟩ } })
    ∧ (ticked { fullTx calm with pending := [.transmitCardSent] }).line.tx.length = 15 := by
  refine ⟨⟨?_, ?_, ?_, ?_, ?_⟩, ?_⟩ <;> decide
/-- A queue of 16 full, another of 16 taking a slip. -/
theorem witness_StoreLawKept :
    let s : State := { stored 16 (withAccount calm) with pending := [.sl (texts ["418", "LANG", "3", "HA-2", "", "1", "0", "1", "0", ""])] }
    StoreLaw s ∧ ((ticked s).store.rings[(3 : Fin 8)]).slips.length = 1 := by
  refine ⟨⟨?_, ?_⟩, ?_⟩ <;> decide
theorem witness_NumbersLawKept :
    let s := { queued (withAccount calm) with pending := [Instr.sl (texts ["418", "LANG", "2", "HA-2", "", "1", "0", "1", "0", ""])] }
    NumbersLaw s ∧ (slipNumbers (ticked s)).length = 2 := by decide
theorem witness_LampLawKept :
    let s : State := { calm with pending := [.cb []] }
    LampLaw s ∧ (ticked s).lamp.state = .warming := by
  refine ⟨⟨?_, ?_⟩, ?_⟩ <;> decide
/-- A frame of roll slot 0 takes its place before one of slot 1. -/
theorem witness_MoneyLawKept_order :
    let s : State := { metered with records := [{ exposedA 1 with slot := 1 }], pending := [.gatePhaseEnd] }
    MapOrdered s ∧ (ticked s).records.map Record.slot = [0, 1] := by decide
theorem witness_MoneyLawKept :
    let s : State := { exposing with pending := [.exposureTimerExpiry] }
    ProvisionalLaw s ∧ BalanceLaw s ∧ ((ticked s).money.accounts[(7 : Fin 64)]).provisional = 120 := by
  refine ⟨⟨?_, ?_, ?_⟩, ?_, ?_⟩
  · decide
  · decide
  · decide
  · unfold BalanceLaw; decide
  · decide

end Sys2Proof.Tests
end

section
/-! Events in a normal form: what stands at a state, with the flags set and the marks due so far. Every operation of mode
control and of the sequencer then has one equation, from normal form to normal form, and the end of the event another. -/

namespace Sys2Proof.Machine

/-! ### The normal form -/

/-- What is still due in an event: the sequencer's going on, a wait's evaluation, a run of the arbiter. -/
structure Due where
  go : Bool := false
  wake : Bool := false
  arb : Bool := false

/-- The event that stands at a state, the report of the flags set in it not yet made. -/
def stands (d : Due) (fs : List Flag) (u : State) : Event :=
  fs.foldl (fun e f => setFlag f e) { toState := u, go := d.go, wake := d.wake, arb := d.arb }

theorem begin_stands (s : State) : s.begin = stands {} [] s := rfl

/-- The line interface of an event in normal form, its report not yet made. -/
def flagged (st : StandEntry) (fs : List Flag) (x : LineState) : LineState := fs.foldl (fun x f => flagLine st f x) x

theorem stands_eq (d : Due) (fs : List Flag) (u : State) :
    stands d fs u =
      { toState := { u with line := flagged u.stand fs u.line }, go := d.go, wake := d.wake, arb := d.arb,
        ring := flagsRing u.stand fs u.line } := by
  unfold stands
  rw [foldl_setFlag]
  simp [flagged]

@[simp] theorem stands_toState (d : Due) (fs : List Flag) (u : State) :
    (stands d fs u).toState = { u with line := flagged u.stand fs u.line } := by rw [stands_eq]
@[simp] theorem stands_go (d : Due) (fs : List Flag) (u : State) : (stands d fs u).go = d.go := by rw [stands_eq]
@[simp] theorem stands_wake (d : Due) (fs : List Flag) (u : State) : (stands d fs u).wake = d.wake := by rw [stands_eq]
@[simp] theorem stands_arb (d : Due) (fs : List Flag) (u : State) : (stands d fs u).arb = d.arb := by rw [stands_eq]
@[simp] theorem stands_step (d : Due) (fs : List Flag) (u : State) : (stands d fs u).step = false := by rw [stands_eq]

section Updates
variable (d : Due) (fs : List Flag) (u : State)

@[simp] theorem stands_setModes (x : Modes) : (stands d fs u).setModes x = stands d fs { u with modes := x } := by
  simp only [stands_eq]; rfl
@[simp] theorem stands_setStore (x : Store) : (stands d fs u).setStore x = stands d fs { u with store := x } := by
  simp only [stands_eq]; rfl
@[simp] theorem stands_setMeter (x : Meter) : (stands d fs u).setMeter x = stands d fs { u with meter := x } := by
  simp only [stands_eq]; rfl
@[simp] theorem stands_setSeq (x : Seq) : (stands d fs u).setSeq x = stands d fs { u with seq := x } := by
  simp only [stands_eq]; rfl
@[simp] theorem stands_setLamp (x : Lamp) : (stands d fs u).setLamp x = stands d fs { u with lamp := x } := by
  simp only [stands_eq]; rfl
@[simp] theorem stands_setFilm (x : Film) :
    (stands d fs u).setFilm x = stands { d with wake := true } fs { u with film := x } := by
  simp only [stands_eq]; rfl
@[simp] theorem stands_setRecords (x : List Record) :
    (stands d fs u).setRecords x = stands d fs { u with records := x } := by simp only [stands_eq]; rfl
@[simp] theorem stands_setLabels (x : Labels) : (stands d fs u).setLabels x = stands d fs { u with labels := x } := by
  simp only [stands_eq]; rfl
@[simp] theorem stands_setMoney (x : Money) : (stands d fs u).setMoney x = stands d fs { u with money := x } := by
  simp only [stands_eq]; rfl

@[simp] theorem stands_woken : (stands d fs u).woken = stands { d with wake := true } fs u := by
  simp only [stands_eq]; rfl
@[simp] theorem stands_arbiterDue : (stands d fs u).arbiterDue = stands { d with arb := true } fs u := by
  simp only [stands_eq]; rfl
@[simp] theorem stands_goOn : (stands d fs u).goOn = stands { d with go := true } fs u := by simp only [stands_eq]; rfl

@[simp] theorem stands_setFlag (f : Flag) : setFlag f (stands d fs u) = stands d (fs ++ [f]) u := by
  simp [stands, List.foldl_append]
@[simp] theorem stands_setFlagIf (b : Bool) (f : Flag) :
    setFlagIf b f (stands d fs u) = stands d (fs ++ if b then [f] else []) u := by
  cases b <;> simp [setFlagIf]

end Updates

/-- A flag set twice in an event is set once. -/
theorem stands_twice (d : Due) (f : Flag) (u : State) : stands d [f, f] u = stands d [f] u := by
  have hmem : f ∈ (flagLine u.stand f u.line).flags := by
    unfold flagLine
    split
    · simp_all
    · split <;> simp [addFlag, mem_flagAll]
  have hset : setFlag f (stands d [f] u) = stands d [f] u := by
    unfold setFlag
    rw [if_pos (by simpa [flagged] using hmem)]
  simpa using hset

/-! ### The end of an event in normal form -/

/-- The end of the event has nothing to do in a state, whatever is due in it: no wait to evaluate, no slip to choose. -/
structure AtRest (u : State) : Prop where
  wait : u.seq.state = .setReady → u.seq.set = none ∧ u.modes.current.working = false
  idle : u.seq.state = .idle → u.modes.current.working = true → ∀ k : Fin 8, testedHead u k = none

/-- With every queue that is not paused empty, the arbiter finds no head and no failed test. -/
theorem chooseHead_none (u : State) (h : ∀ k : Fin 8, testedHead u k = none) (ks : List (Fin 8)) :
    chooseHead u ks = { chosen := none, rollFailed := false, ceilingFailed := false } := by
  induction ks with
  | nil => rfl
  | cons k ks ih =>
    have hk := h k
    unfold testedHead at hk
    simp only [chooseHead, ih]
    split
    · rfl
    · next hp =>
      rw [if_neg hp, List.head?_eq_none_iff] at hk
      rw [hk]

theorem testedHead_none {u : State} {k : Fin 8} (h : (u.store.table[k]).paused = true ∨ (u.store.rings[k]).slips = []) :
    testedHead u k = none := by
  unfold testedHead
  rcases h with h | h
  · rw [if_pos h]
  · rw [h]; exact ite_self _

/-- The arbiter has nothing to choose outside IDLE, in SETUP and HOLD, and from empty queues. -/
theorem arbiter_rests (d : Due) (fs : List Flag) (u : State)
    (h : u.seq.state = .idle → u.modes.current.working = true → ∀ k : Fin 8, testedHead u k = none) :
    arbiter (stands d fs u) = stands d fs u := by
  unfold arbiter
  split
  · next hi =>
    obtain ⟨hidle, hwork⟩ := hi
    have hheads : ∀ k : Fin 8, testedHead (stands d fs u).toState k = none := by
      rw [stands_toState] at hidle hwork ⊢
      exact h hidle hwork
    simp only [chooseHead_none _ hheads, stands_setFlagIf]
    simp
  · rfl

/-- An event that is settled, and in which the arbiter has nothing to choose, ends with the report of its flags. -/
theorem finish_settled (d d' : Due) (fs fs' : List Flag) (u u' : State)
    (hs : settle settleRounds (stands d fs u) = stands d' fs' u')
    (ha : u'.seq.state = .idle → u'.modes.current.working = true → ∀ k : Fin 8, testedHead u' k = none) :
    finish (stands d fs u) = { u' with line := raised u'.stand fs' u'.line } := by
  have harb : ∃ d'', arbiterIfDue (stands d' fs' u') = stands d'' fs' u' := by
    unfold arbiterIfDue
    split
    · have hclear : { stands d' fs' u' with arb := false } = stands { d' with arb := false } fs' u' := by
        simp only [stands_eq]
      exact ⟨{ d' with arb := false }, by rw [hclear, arbiter_rests _ _ _ ha]⟩
    · exact ⟨d', rfl⟩
  obtain ⟨d'', harb⟩ := harb
  unfold finish
  rw [hs, harb]
  exact reportIfDue_flags fs' _ rfl

/-- One round of settling evaluates the wait, and with nothing more to go on with the event is settled. -/
theorem settle_evaluates (n : Nat) (d d' : Due) (fs fs' : List Flag) (u u' : State) (hd : (d.go || d.wake) = true)
    (hev : evaluateWait d.go (stands { arb := d.arb } fs u) = stands d' fs' u') (hg : d'.go = false) :
    settle (n + 1) (stands d fs u) = stands { d' with wake := false } fs' u' := by
  have hclear : { stands d fs u with go := false, wake := false } = stands { arb := d.arb } fs u := by
    simp only [stands_eq]
  have hdone : { stands d' fs' u' with wake := false } = stands { d' with wake := false } fs' u' := by
    simp only [stands_eq]
  rw [settle, if_neg (by simp), if_pos (by simpa using hd), hclear, stands_go, hev, hdone]
  exact settle_settled _ _ (by simp) (by simpa using hg) (by simp)

/-- The end of an event that evaluates a wait once: what the evaluation leaves, with the report of the flags. -/
theorem finish_evaluates {d d' : Due} {fs fs' : List Flag} {u u' : State} (hd : (d.go || d.wake) = true)
    (hev : evaluateWait d.go (stands { arb := d.arb } fs u) = stands d' fs' u') (hg : d'.go = false)
    (ha : u'.seq.state ≠ .idle) :
    finish (stands d fs u) = { u' with line := raised u'.stand fs' u'.line } :=
  finish_settled _ _ _ _ _ _ (settle_evaluates _ _ _ _ _ _ _ hd hev hg) fun h => absurd h ha

/-- The end of an event in a state at rest: the report of its flags. -/
theorem finish_atRest {d : Due} {fs : List Flag} {u : State} (h : AtRest u) :
    finish (stands d fs u) = { u with line := raised u.stand fs u.line } := by
  have hev : ∀ (b : Bool) (d : Due), evaluateWait b (stands d fs u) = stands d fs u := by
    intro b d
    unfold evaluateWait
    split
    · next hst _ _ =>
      obtain ⟨-, hwork⟩ := h.wait (by simpa using hst)
      cases hm : u.modes.current <;> simp_all [Mode.working]
    · next hst _ hset =>
      obtain ⟨hnone, -⟩ := h.wait (by simpa using hst)
      simp [hnone] at hset
    · rfl
  cases hd : (d.go || d.wake) with
  | true => exact finish_settled _ _ _ _ _ _ (settle_evaluates _ _ _ _ _ _ _ hd (hev _ _) rfl) h.idle
  | false =>
    obtain ⟨hg, hw⟩ := Bool.or_eq_false_iff.mp hd
    exact finish_settled _ _ _ _ _ _ (settle_settled _ _ (by simp) (by simpa using hg) (by simpa using hw)) h.idle

/-- The end of an event in an undisturbed state in which the sequencer need not go on. -/
theorem finish_stands_undisturbed {d : Due} {fs : List Flag} {u : State} (hg : d.go = false) (h : undisturbed u = true) :
    finish (stands d fs u) = { u with line := raised u.stand fs u.line } :=
  finish_flags fs _ rfl hg rfl h

/-- The end of an event in which nothing is due but the report of its flags. -/
theorem finish_undue (fs : List Flag) (u : State) :
    finish (stands {} fs u) = { u with line := raised u.stand fs u.line } :=
  finish_flags_unwoken fs _ rfl rfl rfl rfl rfl

theorem atRest_of_notWorking {u : State} (hw : u.modes.current.working = false) (hset : u.seq.set = none) : AtRest u :=
  ⟨fun _ => ⟨hset, hw⟩, fun _ h => by simp [hw] at h⟩

theorem atRest_of_idle {u : State} (hi : u.seq.state = .idle) (hq : ∀ k : Fin 8, testedHead u k = none) : AtRest u :=
  ⟨fun h => absurd (hi.symm.trans h) (by simp), fun _ _ => hq⟩

theorem atRest_of_state {u : State} (hr : u.seq.state ≠ .setReady) (hi : u.seq.state ≠ .idle) : AtRest u :=
  ⟨fun h => absurd h hr, fun h => absurd h hi⟩

end Sys2Proof.Machine
end

section
/-! What the lamp, mode control and the ends of sets and slips do to an event in normal form: one equation for each course. -/

namespace Sys2Proof.Machine

/-! ### The lamp -/

/-- The lamp extinguished while it is on, its metering abandoned and the sequencer's lighting lost (R69, R92, R121). -/
def lightsOut (u : State) : State := { darkened u with seq := { u.seq with slip := u.seq.slip.map unlit } }

/-- A lamp that is OFF, or COOLING with no request waiting, serves nobody. -/
theorem lampServes_dark {l : Lamp} (w : User) (h : l.state = .off ∨ l.state = .cooling ∧ l.waiting = none) :
    lampServes w l = false := by
  rcases h with h | ⟨h, hw⟩
  · simp [lampServes, h]
  · simp [lampServes, h, hw]

/-- The proportional cool-down depends on the STAND entry and the lamp alone. -/
theorem cooling_congr {u v : State} (hst : u.stand = v.stand) (hl : u.lamp = v.lamp) : cooling u = cooling v := by
  unfold cooling guardLimitMs
  rw [hst, hl]

section Lamp
variable {d : Due} {fs : List Flag} {u : State} {w : User}

theorem extinguish_on (h : u.lamp.state = .warming ∨ u.lamp.state = .lit) (hc : 0 < cooling u) :
    extinguish (stands d fs u) = stands d fs (lightsOut u) := by
  have hdark : darken (cooling u) (stands d fs u) = stands d fs (lightsOut u) := by
    rw [darken_pos _ _ hc]
    simp only [stands_toState, stands_setLamp, meterStops, stands_setMeter, lightingLost, changeCurrent, stands_setSeq]
    rfl
  have hcool : proportionalCoolDown u.stand u.lamp = cooling u := rfl
  rcases h with h | h
  · simpa [extinguish, h, hcool] using hdark
  · simpa [extinguish, h, hcool] using hdark

theorem extinguishFor_on (h : u.lamp.state = .warming ∨ u.lamp.state = .lit) (hu : u.lamp.user = some w)
    (hc : 0 < cooling u) : extinguishFor w (stands d fs u) = stands d fs (lightsOut u) := by
  have hserves : lampServes w u.lamp = true := by
    rcases h with h | h
    · simp [lampServes, h, hu]
    · simp [lampServes, h, hu]
  rw [extinguishFor, if_pos (by simpa using hserves), extinguish_on h hc]

theorem extinguishFor_unserved (h : lampServes w u.lamp = false) : extinguishFor w (stands d fs u) = stands d fs u :=
  extinguishFor_other _ _ (by simpa using h)

/-- The extinguish of a user whose request waits only withdraws the request (R121). -/
theorem extinguishFor_waiting (h : u.lamp.state = .cooling) (hw : u.lamp.waiting = some w) :
    extinguishFor w (stands d fs u) = stands d fs { u with lamp := { u.lamp with waiting := none } } := by
  simp [extinguishFor, lampServes, extinguish, h, hw]

/-- The lamp asked for by a sequencer that goes to WARMING, while it is OFF and has a warm-up (R94, R118). -/
theorem lightLamp_warming (h : u.lamp.state = .off) (hw : u.meter.entry.warmUp ≠ 0) :
    lightLamp .sequencer (seqTo .warming (stands d fs u)) = stands d fs { u with
      seq := { u.seq with state := .warming, wait := none }
      lamp := { u.lamp with
        state := .warming, user := some .sequencer, lit := 0, warmUp := some (u.meter.entry.warmUp * 10 * Config.ms) } } := by
  simp [lightLamp, seqTo, h, hw, warmUpMs]

/-- A wait entered while the lamp is not the sequencer's (R98). -/
theorem enterWait_unlit (cause : WaitCause) (h : u.lamp.user ≠ some .sequencer ∨ u.lamp.state = .off) :
    enterWait cause (stands d fs u) =
      stands d fs { u with seq := { u.seq with state := .setReady, wait := some cause } } := by
  simp only [enterWait, stands_toState, stands_setSeq]
  split
  · next hu =>
    have hoff : u.lamp.state = .off := h.resolve_left (not_not_intro hu)
    simp [extinguish, hoff]
  · rfl

/-- A wait entered while the lamp is on for the sequencer: the lamp goes dark (R98, R121). -/
theorem enterWait_lit (cause : WaitCause) (h : u.lamp.state = .warming ∨ u.lamp.state = .lit)
    (hu : u.lamp.user = some .sequencer) (hc : 0 < cooling u) :
    enterWait cause (stands d fs u) =
      stands d fs (lightsOut { u with seq := { u.seq with state := .setReady, wait := some cause } }) := by
  simp only [enterWait, stands_toState, stands_setSeq, hu, if_true]
  exact extinguish_on h hc

end Lamp

/-! ### A change of mode taken (R26, R110, R111) -/

/-- The requested mode made the current one, with nothing pending and the feed hold released (R26, R184). -/
def modeTaken (u : State) : State :=
  { u with
    modes := { requested := u.modes.requested, current := u.modes.requested, change := .none }
    labels := { u.labels with feedHold := false } }

/-- The sequencer parked (R110). -/
def parkedSeq (q : Seq) : Seq :=
  match q.state with
  | .warming | .metering | .setReady => { q with state := .setReady, wait := none }
  | _ => q

/-- No feeding follows a release of the feed hold: it is not on, or no roll is MOUNTING. -/
abbrev NoFeed (u : State) : Prop := u.labels.feedHold = true → mountingSlot u.film = none

/-- The slot found by a test depends on the roll table alone. -/
theorem findRoll_congr (p : Roll → Bool) {f g : Film} (h : f.rolls = g.rolls) : findRoll p f = findRoll p g := by
  unfold findRoll; rw [h]

/-- A change of one roll that keeps what a test says of it keeps the slot that the test finds. -/
theorem findRoll_set {p : Roll → Bool} {i : Fin 4} {r r' : Roll} {f g : Film} (hr : f.rolls[i] = some r) (hp : p r' = p r)
    (hg : g.rolls = f.rolls.set i (some r')) : findRoll p g = findRoll p f := by
  unfold findRoll
  congr 1
  funext j
  simp only [hg, Fin.getElem_fin, Vector.getElem_set]
  by_cases hij : i = j
  · subst hij
    rw [Fin.getElem_fin] at hr
    simp [hr, hp]
  · simp [Fin.val_ne_of_ne hij]

/-- The sequencer works in RUN and PROOF, and parks in SETUP and HOLD (R27). -/
theorem working_iff (m : Mode) : m.working = true ↔ m = .run ∨ m = .proof := by cases m <;> simp [Mode.working]
theorem not_working_iff (m : Mode) : m.working = false ↔ m = .setup ∨ m = .hold := by cases m <;> simp [Mode.working]

section Modes
variable {d : Due} {fs : List Flag} {u : State} {m : Mode}

theorem releaseHold_stands (hf : NoFeed u) :
    releaseHold (stands d fs u) = stands d fs { u with labels := { u.labels with feedHold := false } } := by
  simp only [releaseHold, stands_toState, stands_setLabels]
  split
  · next hh => simp [feed, hf hh]
  · next hh =>
    have hoff : u.labels.feedHold = false := by simpa using hh
    rw [← hoff]

theorem closeUnfit_stands (h : u.shutter.opened = false) : closeUnfit (stands d fs u) = stands d fs u :=
  closeUnfit_closed _ (by simpa using h)

theorem commitMode_stands (hsh : u.shutter.opened = false) (hf : NoFeed u) :
    commitMode (stands d fs u) =
      stands { d with wake := true, arb := d.arb || u.modes.requested.working } (fs ++ [.mode]) (modeTaken u) := by
  simp only [commitMode, stands_toState, stands_setModes, stands_setFlag]
  rw [closeUnfit_stands (by exact hsh), releaseHold_stands (by exact hf)]
  split
  · next hw => simp [hw, modeTaken]
  · next hw => simp [hw, modeTaken]

theorem respondMode_parks (old : Mode) (h : u.modes.current.working = false) :
    respondMode old (stands d fs u) = park (stands d fs u) := by simp [respondMode, h]

theorem respondMode_resumes {old : Mode} (h : u.modes.current.working = true) (ho : old.working = false) :
    respondMode old (stands d fs u) = resume (stands d fs u) := by simp [respondMode, h, ho]

/-- Between RUN and PROOF the sequencer goes on (R111). -/
theorem respondMode_goesOn {old : Mode} (h : u.modes.current.working = true) (ho : old.working = true) :
    respondMode old (stands d fs u) = stands d fs u := by simp [respondMode, h, ho]

theorem park_seq (e : Event) :
    park e = (extinguishFor .sequencer e).setSeq (parkedSeq (extinguishFor .sequencer e).seq) := by
  unfold park parkedSeq seqTo
  generalize extinguishFor .sequencer e = e1
  cases h : e1.seq.state <;> simp only [h] <;> rfl

theorem park_dark (h : lampServes .sequencer u.lamp = false) :
    park (stands d fs u) = stands d fs { u with seq := parkedSeq u.seq } := by
  rw [park_seq, extinguishFor_unserved h, stands_toState, stands_setSeq]

theorem park_on (h : u.lamp.state = .warming ∨ u.lamp.state = .lit) (hu : u.lamp.user = some .sequencer)
    (hc : 0 < cooling u) :
    park (stands d fs u) = stands d fs { lightsOut u with seq := parkedSeq (lightsOut u).seq } := by
  rw [park_seq, extinguishFor_on h hu hc, stands_toState, stands_setSeq]

theorem awaitOriginal_stands :
    awaitOriginal (stands d fs u) =
      stands d (fs ++ [.original]) { u with seq := { u.seq with state := .loading, wait := none } } := by
  simp [awaitOriginal, seqTo]

/-! ### Requests for a mode (R22 to R25) -/

theorem requestMode_current (h : m = u.modes.current) :
    requestMode m (stands d fs u) = stands d fs { u with modes := { u.modes with requested := m, change := .none } } := by
  simp [requestMode, h]

theorem requestMode_pends (hm : m ≠ u.modes.current) (hl : changeLegal u m = false) :
    requestMode m (stands d fs u) = stands d fs { u with
      modes := { u.modes with requested := m, change := if u.modes.current = .run then .boundary else .cal } } := by
  have hl' : changeLegal (stands d fs { u with modes := { u.modes with requested := m } }).toState m = false := by
    rw [stands_toState]; exact hl
  simp only [requestMode, stands_toState, stands_setModes, if_neg hm] at hl' ⊢
  rw [if_neg (by rw [hl']; simp)]

theorem requestMode_takes (hm : m ≠ u.modes.current) (hl : changeLegal u m = true) :
    requestMode m (stands d fs u) = takeChange (stands d fs { u with modes := { u.modes with requested := m } }) := by
  have hl' : changeLegal (stands d fs { u with modes := { u.modes with requested := m } }).toState m = true := by
    rw [stands_toState]; exact hl
  simp only [requestMode, stands_toState, stands_setModes, if_neg hm] at hl' ⊢
  rw [if_pos hl']

/-- Outside a set a change is legal, but for one into RUN or PROOF with a calibration in flight (R23, R25). -/
theorem changeLegal_outside (hset : u.seq.set = none)
    (hc : u.meter.calibrating = false ∨ m.working = false ∨ u.modes.current.working = true) : changeLegal u m = true := by
  have hidle : u.modes.current.working = false → (!(m.working && u.meter.calibrating)) = true := by
    intro hw
    rcases hc with hc | hc | hc
    · simp [hc]
    · simp [hc]
    · simp [hc] at hw
  unfold changeLegal
  cases hcur : u.modes.current with
  | setup => exact hidle (by rw [hcur]; rfl)
  | hold => exact hidle (by rw [hcur]; rfl)
  | proof => rfl
  | run => simp [insideSet, hset]

/-- Into RUN or PROOF no change is legal while a calibration is in flight (R25). -/
theorem changeLegal_calibrating (ho : u.modes.current.working = false) (hw : m.working = true)
    (hc : u.meter.calibrating = true) : changeLegal u m = false := by
  rcases (not_working_iff _).1 ho with h | h
  · simp [changeLegal, h, hw, hc]
  · simp [changeLegal, h, hw, hc]

/-- From RUN inside a set a change is legal at a legal point and nowhere else (R24). -/
theorem changeLegal_inside (hrun : u.modes.current = .run) (hset : u.seq.set.isSome = true) :
    changeLegal u m = setLegalPoint u.seq := by simp [changeLegal, hrun, insideSet, hset]

theorem setLegalPoint_iff (q : Seq) :
    setLegalPoint q = true ↔ q.state = .warming ∨ q.state = .metering
      ∨ q.state = .setReady ∧ (q.wait = some .transport ∨ q.wait = some .lamp) := by
  unfold setLegalPoint
  cases q.state <;> simp

end Modes

/-! ### Sets and slips that end (R107, R108) -/

/-- A set over: its head marked, the set counted if incomplete, the set context gone (R107, steps 1 to 3). -/
def setEnded (complete : Bool) (i : Fin 4) (h : Nat) (c : Current) (u : State) : State :=
  { u with
    records := headMarked i h (if complete then .complete else .incomplete) u.records
    seq := { u.seq with set := none, slip := some (setOver complete c) } }

/-- A slip gone with an outcome, but for the flags of its end (R55, R108). -/
def slipGone (ending : Ending) (c : Current) (u : State) : State :=
  { u with
    store := { u.store with
      ended := joinEnded u.store.ended { slip := c.slip.number, ending, made := c.made, incomplete := c.incomplete } }
    seq := { state := if u.inputs.gate.debounced then .removal else .idle, wait := none, slip := none, set := none } }

/-- The flags of a slip's end (R55, R93). -/
def slipFlags (u : State) : List Flag := endedFlags u.store.ended ++ if u.inputs.gate.debounced then [.remove] else []

/-- The slip ends after its set: it is cancelled, or this was its last copy (R107, step 4). -/
abbrev SlipEnds (c : Current) : Prop := c.slip.cancelPending = true ∨ c.slip.copies ≤ c.copy

/-- The outcome of a slip that ends after a set (R107, step 4). -/
def setEnding (c : Current) : Ending := if c.slip.cancelPending then .cancelled else lastEnding c

/-- The slip with its next copy, in SET_READY (R107, step 4). -/
def nextCopy (c : Current) (u : State) : State :=
  { u with seq := { u.seq with state := .setReady, wait := none, slip := some { c with copy := c.copy + 1 } } }

theorem setEnding_ne_proofed (c : Current) : setEnding c ≠ .proofed := by
  unfold setEnding lastEnding
  split
  · simp
  · split <;> simp

section Sets
variable {d : Due} {fs : List Flag} {u : State} {c : Current} {i : Fin 4} {h : Nat} {x : SetCtx}

theorem appendEnded_stands (k : Completion) :
    appendEnded k (stands d fs u) =
      stands d (fs ++ endedFlags u.store.ended) { u with store := { u.store with ended := joinEnded u.store.ended k } } := by
  by_cases hl : 32 ≤ u.store.ended.length
  · simp [appendEnded, endedFlags, joinEnded, Config.endedPlaces, hl]
  · simp [appendEnded, endedFlags, joinEnded, Config.endedPlaces, hl]

theorem slipEnd_dark {ending : Ending} (hp : ending ≠ .proofed) (hs : u.seq.slip = some c)
    (hl : lampServes .sequencer u.lamp = false) :
    slipEnd ending (stands d fs u) = stands { d with arb := true } (fs ++ slipFlags u) (slipGone ending c u) := by
  simp only [slipEnd, stands_toState, hs, if_neg hp, appendEnded_stands]
  rw [extinguishFor_unserved (by exact hl)]
  simp only [stands_toState, stands_setSeq, stands_setFlagIf, stands_arbiterDue, List.append_assoc]
  rfl

theorem slipEnd_on {ending : Ending} (hp : ending ≠ .proofed) (hs : u.seq.slip = some c)
    (h : u.lamp.state = .warming ∨ u.lamp.state = .lit) (hu : u.lamp.user = some .sequencer) (hc : 0 < cooling u) :
    slipEnd ending (stands d fs u) = stands { d with arb := true } (fs ++ slipFlags u) (slipGone ending c (darkened u)) := by
  simp only [slipEnd, stands_toState, hs, if_neg hp, appendEnded_stands]
  rw [extinguishFor_on (by exact h) (by exact hu) (by exact hc)]
  simp only [stands_toState, stands_setSeq, stands_setFlagIf, stands_arbiterDue, List.append_assoc]
  rfl

/-- A slip's end leaves the sequencer in a state that parking does not change (R110). -/
theorem parkedSeq_slipGone (ending : Ending) : parkedSeq (slipGone ending c u).seq = (slipGone ending c u).seq := by
  simp only [slipGone, parkedSeq]
  by_cases hg : u.inputs.gate.debounced = true
  · simp [hg]
  · simp [hg]

theorem slipOut_eq (ending : Ending) :
    slipOut fs ending c u = { slipGone ending c u with line := raised u.stand (fs ++ slipFlags u) u.line } := by
  rw [slipOut, List.append_assoc]; rfl

theorem slipFate_ends (hs : u.seq.slip = some c) (he : SlipEnds c) :
    slipFate false (stands d fs u) = slipEnd (setEnding c) (stands d fs u) := by
  simp only [slipFate, stands_toState, hs, setEnding, lastEnding]
  by_cases hp : c.slip.cancelPending = true
  · simp [hp]
  · simp [hp, he.resolve_left hp]

theorem slipFate_goesOn (hs : u.seq.slip = some c) (he : ¬ SlipEnds c) :
    slipFate false (stands d fs u) = stands { d with go := true } fs (nextCopy c u) := by
  obtain ⟨hp, hcopy⟩ := not_or.mp he
  simp [slipFate, hs, hp, hcopy, nextCopy]

theorem endSet_outside (complete guardShort : Bool) (h : u.seq.set = none) :
    endSet complete guardShort (stands d fs u) = stands d fs u := by simp [endSet, insideSet, h]

theorem headMarked_eq (status : SetStatus) (rs : List Record) :
    changeRecords (isAt i h) (Record.withStatus status) rs = headMarked i h status rs := by
  simp [changeRecords, headMarked, isAt, Record.withStatus]

/-- A set that ends, up to the change of mode and the slip's fate (R107, steps 1 to 3). -/
theorem endSet_stands (complete : Bool) (hset : u.seq.set = some x) (hh : x.head = some h) (hs : u.seq.slip = some c)
    (hi : cameraSlot u.film = some i) :
    endSet complete false (stands d fs u) =
      if u.modes.change = .boundary then
        respondMode u.modes.current (slipFate false (commitMode (stands d fs (setEnded complete i h c u))))
      else slipFate false (stands d fs (setEnded complete i h c u)) := by
  have hin : insideSet (stands d fs u).toState = true := by simp [insideSet, hset]
  have hmark : markSetHead complete (stands d fs u) = stands d fs { u with
      records := headMarked i h (if complete then .complete else .incomplete) u.records } := by
    simp [markSetHead, hset, hi, hh, setHeadStatus, headMarked_eq]
  unfold endSet
  rw [hin, hmark]
  cases complete with
  | false => simp [setEnded, setOver, changeCurrent, hs]
  | true => simp [setEnded, setOver, hs]

/-- A change taken outside a set. -/
theorem takeChange_outside (hset : u.seq.set = none) (hsh : u.shutter.opened = false) (hf : NoFeed u) :
    takeChange (stands d fs u) = respondMode u.modes.current
      (stands { d with wake := true, arb := d.arb || u.modes.requested.working } (fs ++ [.mode]) (modeTaken u)) := by
  rw [takeChange, commitMode_stands hsh hf, endSet_outside _ _ (by exact hset), stands_toState]

/-- A change taken inside a set, which ends INCOMPLETE (R24). -/
theorem takeChange_inside (hset : u.seq.set = some x) (hh : x.head = some h) (hs : u.seq.slip = some c)
    (hi : cameraSlot u.film = some i) (hsh : u.shutter.opened = false) (hf : NoFeed u) :
    takeChange (stands d fs u) = respondMode u.modes.current (slipFate false
      (stands { d with wake := true, arb := d.arb || u.modes.requested.working } (fs ++ [.mode])
        (setEnded false i h c (modeTaken u)))) := by
  rw [takeChange, commitMode_stands hsh hf,
    endSet_stands (x := x) (h := h) (c := c) (i := i) false (by exact hset) hh (by exact hs) (by exact hi),
    if_neg (by simp [modeTaken]), stands_toState]

/-- The end of an event in which a slip has ended and the sequencer parks (R108, R110). -/
theorem finish_parks_slipGone {ending : Ending} (old : Mode) (hw : u.modes.current.working = false)
    (hl : lampServes .sequencer u.lamp = false) :
    finish (respondMode old (stands d (fs ++ slipFlags u) (slipGone ending c u))) = slipOut fs ending c u := by
  rw [respondMode_parks _ (by exact hw), park_dark (by exact hl), parkedSeq_slipGone,
    finish_atRest (atRest_of_notWorking (by exact hw) (by rfl)), slipOut_eq]
  rfl

/-- A set over in SETUP or HOLD with the lamp dark: the slip parks with its next copy, or ends (R107, R110). -/
theorem finish_parks_slipFate_dark (old : Mode) (hw : u.modes.current.working = false) (hset : u.seq.set = none)
    (hs : u.seq.slip = some c) (hl : lampServes .sequencer u.lamp = false) :
    finish (respondMode old (slipFate false (stands d fs u))) = parkedAfterSet fs c u := by
  unfold parkedAfterSet
  split
  · next he =>
    rw [slipFate_ends hs he, slipEnd_dark (setEnding_ne_proofed c) hs hl, finish_parks_slipGone old hw hl]
    rfl
  · next he =>
    rw [slipFate_goesOn hs he, respondMode_parks _ (by exact hw), park_dark (by exact hl),
      finish_atRest (atRest_of_notWorking (by exact hw) (by exact hset))]
    simp [nextCopy, parkedSeq, hset]

/-- The same with the lamp on for the sequencer, which goes dark (R110, R121). -/
theorem finish_parks_slipFate_on (old : Mode) (hw : u.modes.current.working = false) (hset : u.seq.set = none)
    (hs : u.seq.slip = some c) (h : u.lamp.state = .warming ∨ u.lamp.state = .lit)
    (hu : u.lamp.user = some .sequencer) (hwait : u.lamp.waiting = none)
    (hc : 0 < cooling u) :
    finish (respondMode old (slipFate false (stands d fs u))) = parkedAfterSet fs (unlit c) (darkened u) := by
  have hdark : lampServes .sequencer (darkened u).lamp = false := lampServes_dark _ (.inr ⟨rfl, hwait⟩)
  unfold parkedAfterSet
  split
  · next he =>
    rw [slipFate_ends hs he, slipEnd_on (setEnding_ne_proofed c) hs h hu hc]
    exact finish_parks_slipGone (u := darkened u) old hw hdark
  · next he =>
    rw [slipFate_goesOn hs he, respondMode_parks _ (by exact hw), park_on (by exact h) (by exact hu) (by exact hc),
      finish_atRest (atRest_of_notWorking (by exact hw) (by exact hset))]
    simp only [nextCopy, parkedSeq, lightsOut, hset]
    rfl

end Sets

end Sys2Proof.Machine
end

section
/-! The MD card (O12), the cell start (O15) and a slip's metering that fails (O26). -/

namespace Sys2Proof.Machine

/-! ### The MD card (R22) -/

theorem oneField_modeOf_none {fields : List Text} (h : ∀ m : Mode, fields ≠ [modeWord m]) :
    oneField modeOf fields = none := by
  match fields with
  | [] => rfl
  | [f] =>
    show modeOf f = none
    rw [Option.eq_none_iff_forall_ne_some]
    intro m hm
    have hw : modeWord m = f := by simpa using List.find?_some hm
    exact h m (by rw [hw])
  | _ :: _ :: _ => rfl

/-- An MD card of a mode is answered, and then its request is judged. -/
theorem exec_md (s : State) (m : Mode) (htx : s.line.tx.length < 16) :
    exec (.md [modeWord m]) s =
      .next (finish (requestMode m (stands {} [] (sends (okCard (txt "MD") [modeWord m]) s)))) := by
  show takeCard _ s = _
  rw [takeCard_free _ _ htx, cardMd, show oneField modeOf [modeWord m] = some m from modeOf_modeWord m]
  rfl

theorem exec_md_refused (s : State) (fields : List Text) (htx : s.line.tx.length < 16)
    (h : ∀ m : Mode, fields ≠ [modeWord m]) :
    exec (.md fields) s = .next (sends (noCard (txt "MD") [fields.getD 0 []] .field) s) := by
  show takeCard _ s = _
  rw [takeCard_free _ _ htx, cardMd, oneField_modeOf_none h]
  exact congrArg Host.Outcome.next (finish_undue [] _)

/-- The end of an event in which no flag was set and nothing is due. -/
theorem finish_unflagged (u : State) : finish (stands {} [] u) = u :=
  finish_unmarked _ rfl rfl rfl rfl rfl

/-- Settles O12: the request is for the current mode, or is legal nowhere now, or the card names no mode. -/
theorem modeRequestJudged : Obligations.ModeRequestJudged := by
  intro s htx
  refine ⟨fun m => ⟨fun hm => ?_, fun hrun hm hset hwarm hmeter hwait => ?_, fun hcur hm hcal => ?_⟩, fun fields h => ?_⟩
  · rw [exec_md s m htx, requestMode_current (by exact hm), finish_unflagged]
    rfl
  · have hpoint : setLegalPoint s.seq = false := by
      rw [Bool.eq_false_iff, ne_eq, setLegalPoint_iff]
      simp [hwarm, hmeter, hwait]
    have hne : m ≠ s.modes.current := by rw [hrun]; exact hm
    have hlegal : changeLegal s m = false := (changeLegal_inside hrun hset).trans hpoint
    rw [exec_md s m htx, requestMode_pends (by exact hne) (by exact hlegal), finish_unflagged]
    simp [sends, hrun]
  · have ho := (not_working_iff _).2 hcur
    have hw := (working_iff m).2 hm
    have hne : m ≠ s.modes.current := by rintro rfl; simp [hw] at ho
    have hrun : s.modes.current ≠ .run := by intro h; simp [h, Mode.working] at ho
    rw [exec_md s m htx, requestMode_pends (by exact hne) (by exact changeLegal_calibrating ho hw hcal), finish_unflagged]
    simp [sends, hrun]
  · exact exec_md_refused s fields htx h

/-! ### Cell start (R29, R30) -/

/-- The state a cell start leaves: the reset state, but for the strap's speed, the inputs, and the model's own fields. -/
def cellStarted (strap : LineSpeed) (s : State) : State :=
  { State.reset with
    line := { State.reset.line with speed := strap }, inputs := s.inputs.afterPower, clock := s.clock, pending := s.pending }

/-- The blocks after a power-up on cell-start values, and the lamp, whose full cool-down is that of R31, apart. -/
theorem blocksAfterPower_cell (strap : LineSpeed) (s : State) :
    blocksAfterPower strap (cellDefaults s) =
      { cellStarted strap s with line := .afterPower strap, lamp := .afterPower .default } := rfl

theorem lampAfterPower_default : Lamp.afterPower .default = State.reset.lamp := by
  simp [Lamp.afterPower, fullCoolDown, StandEntry.default, State.reset]

theorem exec_standPowerUp_cell (strap : LineSpeed) (s : State) (h : s.latch = false) :
    exec (.standPowerUp strap) s = .next (cellStarted strap s) := by
  have hcell : powerUp strap s.begin = stands {} [.start, .cell] (blocksAfterPower strap (cellDefaults s)) := by
    simp only [powerUp, begin_toState, h, Bool.not_false, if_true, setFlagIf]
    rfl
  have hline : raised StandEntry.default [.start, .cell] (.afterPower strap) = { State.reset.line with speed := strap } := by
    cases strap <;> rfl
  show Host.Outcome.next (finish (powerUp strap s.begin)) = _
  rw [hcell, finish_undue, blocksAfterPower_cell, lampAfterPower_default]
  exact congrArg (fun l => Host.Outcome.next { cellStarted strap s with line := l }) hline

/-- Settles O15: the cell-start values of R30 and then the blocks' power-up values (R29) make the reset state. -/
theorem cellStart : Obligations.CellStart := by
  intro s
  refine ⟨?_, fun strap h => ⟨cellStarted strap s, exec_standPowerUp_cell strap s h, rfl, fun i => ?_⟩⟩
  · show Host.Outcome.next (finish (latchClears s.begin)) = _
    rw [finish_unmarked _ rfl rfl rfl rfl rfl]
    rfl
  · cases i <;> rfl

/-! ### A slip's metering that fails (R64, R66, R68) -/

theorem noFeed_elapse {n : Nat} {s : State} (h : NoFeed s) : NoFeed (elapse n s) := by
  unfold NoFeed at h ⊢
  rwa [elapse_feedHold, mountingSlot, findRoll_congr _ (elapse_rolls n s)]

section Fails
variable {d : Due} {fs : List Flag} {u : State} {c : Current}

/-- HOLD requested and taken outside a set in RUN or PROOF, the sequencer parking in METERING with the lamp on for it. -/
theorem meteringFails_sequencer {j : MeterJob} (hj : u.meter.job = some j) (hu : j.user = .sequencer)
    (hl : u.lamp.state = .lit) (hlu : u.lamp.user = some .sequencer) (hlw : u.lamp.waiting = none) (hc : 0 < cooling u)
    (hst : u.seq.state = .metering) (hset : u.seq.set = none) (hsh : u.shutter.opened = false)
    (hm : u.modes.current = .run ∨ u.modes.current = .proof) (hf : NoFeed u) (hs : u.seq.slip = some c) :
    finish (meteringFails (stands d fs u)) = { u with
      line := raised u.stand (fs ++ [.mode]) u.line
      lamp := dark (cooling u) u.lamp
      meter := meterFree u.meter
      modes := { requested := .hold, current := .hold, change := .none }
      labels := { u.labels with feedHold := false }
      seq := { state := .setReady, wait := none, slip := some (unlit c), set := none } } := by
  have hwork : u.modes.current.working = true := (working_iff _).2 hm
  have hne : Mode.hold ≠ u.modes.current := by intro h; simp [← h, Mode.working] at hwork
  simp only [meteringFails, stands_toState, hj, hu, meterStops, stands_setMeter]
  rw [extinguishFor_on (by exact .inr hl) (by exact hlu) (by exact hc), requestMode_takes (by exact hne)
      (changeLegal_outside (by exact hset) (.inr (.inr (by exact hwork)))),
    takeChange_outside (by exact hset) (by exact hsh) (by exact hf), respondMode_parks _ (by rfl),
    park_dark (lampServes_dark _ (.inr ⟨by rfl, by exact hlw⟩)),
    finish_atRest (atRest_of_notWorking (by rfl) (by simp [modeTaken, lightsOut, parkedSeq, hst, hset]))]
  simp only [modeTaken, lightsOut, parkedSeq, hst, hset, hs]
  rfl

end Fails

/-- Settles O26: each overrun sets its flag and fails the metering, with the time to the last tick passed. -/
theorem slipMeteringFails : Obligations.SlipMeteringFails := by
  intro s j c hj hu hcal hl hlu hst hset hs hlw hsh hm hf
  dsimp only
  refine ⟨fun hph hc => ?_, fun hph hc => ?_⟩
  · show Host.Outcome.next (finish (inPhase .reference referenceOverruns (elapse (untilOverrun s) s).begin)) = _
    rw [inPhase, if_pos (by exact (elapse_meterPhase _ _).trans hph), referenceOverruns, begin_stands, stands_setFlag,
      meteringFails_sequencer (j := j) (c := c) (by simpa using hj) hu (by simpa using hl) (by simpa using hlu)
        (by simpa using hlw) hc (by simpa using hst) (by simpa using hset) (by simpa using hsh) (by simpa using hm)
        (noFeed_elapse hf) (by simpa using hs), elapse_stand]
    rfl
  · show Host.Outcome.next (finish (inPhase .gate (fun e => gateOverruns (counterAtTop e)) s.begin)) = _
    rw [inPhase, if_pos (by exact hph), gateOverruns, counterAtTop, begin_stands, stands_toState, stands_setMeter,
      stands_setFlag, meteringFails_sequencer (j := j) (c := c) (by exact hj) hu (by exact hl) (by exact hlu)
        (by exact hlw) (by exact hc)
        (by exact hst) (by exact hset) (by exact hsh) (by exact hm) (by exact hf) (by exact hs)]
    rfl

end Sys2Proof.Machine
end

section
/-! A change of mode taken (O13): by an MD card outside a set and at a legal point inside one, at BOUNDARY, and at CAL. -/

namespace Sys2Proof.Machine

/-! ### The sequencer's response in RUN and PROOF (R111) -/

section Resume
variable {d : Due} {fs : List Flag} {u : State}

theorem resume_idle (h : u.seq.state = .idle) : resume (stands d fs u) = stands d fs u := by simp [resume, h]

/-- With no slide in the gate the sequencer awaits the original (R111). -/
theorem resume_awaits (hg : u.inputs.gate.debounced = false)
    (h : u.seq.state = .removal ∧ u.seq.slip.isSome = true ∨ u.seq.state = .setReady) :
    resume (stands d fs u) = stands d (fs ++ [.original]) { u with seq := { u.seq with state := .loading, wait := none } } := by
  rw [← awaitOriginal_stands]
  rcases h with ⟨h, hs⟩ | h
  · simp [resume, gateActive, h, hs, hg]
  · simp [resume, gateActive, h, hg]

/-- In LOADING with a slide in the gate the lamp is asked for (R94, R111). -/
theorem resume_lights (hg : u.inputs.gate.debounced = true) (h : u.seq.state = .loading) (hl : u.lamp.state = .off)
    (hw : u.meter.entry.warmUp ≠ 0) :
    resume (stands d fs u) = stands d fs { u with
      seq := { u.seq with state := .warming, wait := none }
      lamp := { u.lamp with
        state := .warming, user := some .sequencer, lit := 0, warmUp := some (u.meter.entry.warmUp * 10 * Config.ms) } } := by
  rw [← lightLamp_warming hl hw]
  simp [resume, gateActive, h, hg, originalIn]

end Resume

/-! ### An MD card outside a set -/

/-- The state of an event in which an MD card's change is taken, the sequencer and the flags apart. -/
def changedTo (m : Mode) (s : State) : State :=
  sends (okCard (txt "MD") [modeWord m])
    { s with modes := { requested := m, current := m, change := .none }, labels := { s.labels with feedHold := false } }

theorem exec_md_changes {s : State} {m : Mode} (htx : s.line.tx.length < 16) (hm : m ≠ s.modes.current)
    (hset : s.seq.set = none) (hsh : s.shutter.opened = false) (hf : NoFeed s)
    (hl : s.meter.calibrating = false ∨ m.working = false ∨ s.modes.current.working = true) :
    exec (.md [modeWord m]) s = .next (finish (respondMode s.modes.current
      (stands { wake := true, arb := m.working } [.mode] (changedTo m s)))) := by
  rw [exec_md s m htx, requestMode_takes (by exact hm) (changeLegal_outside (by exact hset) (by exact hl)),
    takeChange_outside (by exact hset) (by exact hsh) (by exact hf)]
  rfl

/-- Into SETUP or HOLD with the lamp dark: the sequencer parks (R110). -/
theorem exec_md_parks {s : State} {m : Mode} (htx : s.line.tx.length < 16) (hm : m ≠ s.modes.current)
    (hset : s.seq.set = none) (hsh : s.shutter.opened = false) (hf : NoFeed s) (hw : m.working = false)
    (hl : s.lamp.state = .off) :
    exec (.md [modeWord m]) s = .next { changedTo m s with
      line := raised s.stand [.mode] (changedTo m s).line, seq := parkedSeq s.seq } := by
  have hrest : (parkedSeq s.seq).set = none := by
    unfold parkedSeq
    split <;> exact hset
  rw [exec_md_changes htx hm hset hsh hf (.inr (.inl hw)), respondMode_parks _ (by exact hw),
    park_dark (lampServes_dark _ (.inl (by exact hl))), finish_atRest (atRest_of_notWorking (by exact hw) (by exact hrest))]
  rfl

/-- Into SETUP or HOLD with the lamp on for the sequencer: it parks with the lamp dark (R69, R110, R121). -/
theorem exec_md_parks_lit {s : State} {m : Mode} {c : Current} (htx : s.line.tx.length < 16) (hm : m ≠ s.modes.current)
    (hset : s.seq.set = none) (hsh : s.shutter.opened = false) (hf : NoFeed s) (hw : m.working = false)
    (hst : s.seq.state = .warming ∨ s.seq.state = .metering) (hs : s.seq.slip = some c)
    (hl : s.lamp.state = .warming ∨ s.lamp.state = .lit) (hu : s.lamp.user = some .sequencer) (hc : 0 < cooling s) :
    exec (.md [modeWord m]) s = .next { changedTo m s with
      line := raised s.stand [.mode] (changedTo m s).line
      seq := { state := .setReady, wait := none, set := none, slip := some (unlit c) }
      lamp := dark (cooling s) s.lamp, meter := meterFree s.meter } := by
  have hparked : parkedSeq (lightsOut (changedTo m s)).seq =
      { state := .setReady, wait := none, set := none, slip := some (unlit c) } := by
    show parkedSeq { s.seq with slip := s.seq.slip.map unlit } = _
    rcases hst with hst | hst
    · simp [parkedSeq, hst, hs, hset]
    · simp [parkedSeq, hst, hs, hset]
  rw [exec_md_changes htx hm hset hsh hf (.inr (.inl hw)), respondMode_parks _ (by exact hw),
    park_on (by exact hl) (by exact hu) (by exact hc), hparked, finish_atRest (atRest_of_notWorking (by exact hw) (by rfl))]
  rfl

/-- From SETUP or HOLD into RUN or PROOF the sequencer resumes (R111). -/
theorem exec_md_resumes {s : State} {m : Mode} (htx : s.line.tx.length < 16) (hset : s.seq.set = none)
    (hsh : s.shutter.opened = false) (hf : NoFeed s) (hcal : s.meter.calibrating = false) (hw : m.working = true)
    (ho : s.modes.current.working = false) :
    exec (.md [modeWord m]) s =
      .next (finish (resume (stands { wake := true, arb := m.working } [.mode] (changedTo m s)))) := by
  have hm : m ≠ s.modes.current := by rintro rfl; simp [hw] at ho
  rw [exec_md_changes htx hm hset hsh hf (.inl hcal), respondMode_resumes (by exact hw) ho]

/-- Between RUN and PROOF the sequencer goes on (R111). -/
theorem exec_md_goesOn {s : State} {m : Mode} (htx : s.line.tx.length < 16) (hm : m ≠ s.modes.current)
    (hset : s.seq.set = none) (hsh : s.shutter.opened = false) (hf : NoFeed s) (hw : m.working = true)
    (ho : s.modes.current.working = true) :
    exec (.md [modeWord m]) s =
      .next (finish (stands { wake := true, arb := m.working } [.mode] (changedTo m s))) := by
  rw [exec_md_changes htx hm hset hsh hf (.inr (.inr ho)), respondMode_goesOn (by exact hw) ho]

/-! ### Waits evaluated by the checks of the new mode (R98, R112) -/

section Waits
variable {d : Due} {fs : List Flag} {u : State} {c : Current} {told : Bool}

theorem evaluateWait_run (h : u.seq.state = .setReady) (hset : u.seq.set = none) (hs : u.seq.slip = some c)
    (hm : u.modes.current = .run) : evaluateWait told (stands d fs u) = evaluateSetStart c (stands d fs u) := by
  simp [evaluateWait, h, hset, hs, hm]

theorem evaluateWait_proof (h : u.seq.state = .setReady) (hset : u.seq.set = none) (hs : u.seq.slip = some c)
    (hm : u.modes.current = .proof) : evaluateWait told (stands d fs u) = proofChecks c (stands d fs u) := by
  simp [evaluateWait, h, hset, hs, hm]

theorem rollAwaited_eq (f : Film) : rollAwaited f = awaitsRoll f := by
  rw [Bool.eq_iff_iff, rollAwaited_iff, awaitsRoll, decide_eq_true_iff]

/-- With no camera roll and the lamp not COOLING a set start waits with cause ROLL (R97). -/
theorem evaluateSetStart_noRoll (hl : u.lamp.state = .off) (hi : cameraSlot u.film = none) :
    evaluateSetStart c (stands d fs u) = enterWait .roll (stands d fs u) := by
  simp [evaluateSetStart, cameraFrame, hl, hi]

/-- With the lamp COOLING a set start waits with cause LAMP, but for R106 (R97, log 27). -/
theorem evaluateSetStart_dark (hl : u.lamp.state = .cooling) :
    evaluateSetStart c (stands d fs u) = enterWait (if awaitsRoll u.film = true then .roll else .lamp) (stands d fs u) := by
  simp only [evaluateSetStart, stands_toState, hl, rollAwaited_eq]
  split <;> simp [*]

theorem proofChecks_dark (hl : u.lamp.state = .cooling) :
    proofChecks c (stands d fs u) = enterWait .lamp (stands d fs u) := by simp [proofChecks, hl]

/-- The proof checks of a slip that is still to be lit ask for its lighting (R112). -/
theorem proofChecks_unlit (hl : u.lamp.state ≠ .cooling) (hr : lightingReady u = false) :
    proofChecks c (stands d fs u) = awaitLighting (stands d fs u) := by
  have hr' : lightingReady (stands d fs u).toState = false := by rw [stands_toState]; exact hr
  rw [proofChecks, if_neg (by simpa using hl), if_neg (by rw [hr']; simp)]

/-- A metering of the sequencer that runs on is awaited (R95, R112). -/
theorem awaitLighting_metering {j : MeterJob} (hj : u.meter.job = some j) (hu : j.user = .sequencer) :
    awaitLighting (stands d fs u) = stands d fs { u with seq := { u.seq with state := .metering, wait := none } } := by
  simp [awaitLighting, hj, hu, seqTo]

theorem awaitLighting_idle (hj : u.meter.job = none) (hl : u.lamp.state = .off) (hw : u.meter.entry.warmUp ≠ 0) :
    awaitLighting (stands d fs u) = stands d fs { u with
      seq := { u.seq with state := .warming, wait := none }
      lamp := { u.lamp with
        state := .warming, user := some .sequencer, lit := 0, warmUp := some (u.meter.entry.warmUp * 10 * Config.ms) } } := by
  rw [← lightLamp_warming hl hw]
  simp [awaitLighting, hj]

theorem lightingReady_unlit (hl : u.lamp.state ≠ .lit) : lightingReady u = false := by simp [lightingReady, hl]

end Waits

/-! ### Between RUN and PROOF outside a set -/

section GoesOn
variable {s : State} {m : Mode} {c : Current}

/-- A sequencer that does not wait keeps its state (R111). -/
theorem exec_md_keeps (htx : s.line.tx.length < 16) (hm : m ≠ s.modes.current)
    (hset : s.seq.set = none) (hsh : s.shutter.opened = false) (hf : NoFeed s) (hw : m.working = true)
    (ho : s.modes.current.working = true) (hst : s.seq.state ≠ .setReady)
    (hq : s.seq.state = .idle → ∀ k : Fin 8, (s.store.table[k]).paused = true ∨ (s.store.rings[k]).slips = []) :
    exec (.md [modeWord m]) s =
      .next { changedTo m s with line := raised s.stand [.mode] (changedTo m s).line, seq := s.seq } := by
  have hrest : AtRest (changedTo m s) := ⟨fun h => absurd h hst, fun h _ k => testedHead_none (hq h k)⟩
  rw [exec_md_goesOn htx hm hset hsh hf hw ho, finish_atRest hrest]
  rfl

/-- Into RUN a set start that waits is evaluated by the checks of R97, here to a wait with the lamp not the sequencer's. -/
theorem exec_md_run_waits {cause : WaitCause} (htx : s.line.tx.length < 16) (hm : s.modes.current = .proof)
    (hset : s.seq.set = none) (hsh : s.shutter.opened = false) (hf : NoFeed s) (hst : s.seq.state = .setReady)
    (hs : s.seq.slip = some c) (hl : s.lamp.user ≠ some .sequencer ∨ s.lamp.state = .off)
    (hev : evaluateSetStart c (stands { arb := true } [.mode] (changedTo .run s))
      = enterWait cause (stands { arb := true } [.mode] (changedTo .run s))) :
    exec (.md [modeWord .run]) s = .next { changedTo .run s with
      line := raised s.stand [.mode] (changedTo .run s).line, seq := { s.seq with wait := some cause } } := by
  rw [exec_md_goesOn htx (by simp [hm]) hset hsh hf rfl (by simp [hm, Mode.working]),
    finish_evaluates rfl (((evaluateWait_run (by exact hst) (by exact hset) (by exact hs) (by rfl)).trans hev).trans
      (enterWait_unlit _ (by exact hl))) rfl (by simp)]
  simp [changedTo, sends, ← hst]

/-- Into PROOF a slip that waits goes by the proof checks (R112). -/
theorem exec_md_proof (htx : s.line.tx.length < 16) (hm : s.modes.current = .run)
    (hset : s.seq.set = none) (hsh : s.shutter.opened = false) (hf : NoFeed s) (hst : s.seq.state = .setReady)
    (hs : s.seq.slip = some c) {d' : Due} {fs' : List Flag} {u' : State} (hg : d'.go = false) (hi : u'.seq.state ≠ .idle)
    (hev : proofChecks c (stands { arb := true } [.mode] (changedTo .proof s)) = stands d' fs' u') :
    exec (.md [modeWord .proof]) s = .next { u' with line := raised u'.stand fs' u'.line } := by
  rw [exec_md_goesOn htx (by simp [hm]) hset hsh hf rfl (by simp [hm, Mode.working]),
    finish_evaluates rfl ((evaluateWait_proof (by exact hst) (by exact hset) (by exact hs) (by rfl)).trans hev) hg hi]

end GoesOn

/-! ### At a legal point inside a set (R24) -/

section Inside
variable {s : State} {m : Mode} {c : Current} {x : SetCtx} {i : Fin 4} {h : Nat}

theorem exec_md_legalPoint (htx : s.line.tx.length < 16) (hrun : s.modes.current = .run) (hm : m ≠ .run)
    (hp : s.seq.state = .warming ∨ s.seq.state = .metering
      ∨ s.seq.state = .setReady ∧ (s.seq.wait = some .transport ∨ s.seq.wait = some .lamp))
    (hset : s.seq.set = some x) (hh : x.head = some h) (hs : s.seq.slip = some c) (hi : cameraSlot s.film = some i)
    (hsh : s.shutter.opened = false) (hf : NoFeed s) :
    exec (.md [modeWord m]) s = .next (finish (respondMode .run (slipFate false
      (stands { wake := true, arb := m.working } [.mode] (setEnded false i h c (changedTo m s)))))) := by
  have hlegal : changeLegal s m = true :=
    (changeLegal_inside hrun (by rw [hset]; rfl)).trans ((setLegalPoint_iff _).2 hp)
  rw [exec_md s m htx, requestMode_takes (by rw [← hrun] at hm; exact hm) (by exact hlegal),
    takeChange_inside (by exact hset) hh (by exact hs) (by exact hi) (by exact hsh) (by exact hf)]
  show Host.Outcome.next (finish (respondMode s.modes.current _)) = _
  rw [hrun]
  rfl

/-- Into PROOF with copies left the slip goes on with its next copy, by the proof checks (log 12). -/
theorem exec_md_proof_inside (htx : s.line.tx.length < 16) (hrun : s.modes.current = .run)
    (hp : s.seq.state = .warming ∨ s.seq.state = .metering
      ∨ s.seq.state = .setReady ∧ (s.seq.wait = some .transport ∨ s.seq.wait = some .lamp))
    (hset : s.seq.set = some x) (hh : x.head = some h) (hs : s.seq.slip = some c) (hi : cameraSlot s.film = some i)
    (hsh : s.shutter.opened = false) (hf : NoFeed s) (hon : ¬ SlipEnds (setOver false c))
    {d' : Due} {fs' : List Flag} {u' : State} (hg : d'.go = false) (hidle : u'.seq.state ≠ .idle)
    (hev : proofChecks { setOver false c with copy := c.copy + 1 } (stands { arb := true } [.mode]
      (nextCopy (setOver false c) (setEnded false i h c (changedTo .proof s)))) = stands d' fs' u') :
    exec (.md [modeWord .proof]) s = .next { u' with line := raised u'.stand fs' u'.line } := by
  rw [exec_md_legalPoint htx hrun (by simp) hp hset hh hs hi hsh hf, slipFate_goesOn (by rfl) hon,
    respondMode_goesOn (by rfl) (by rfl),
    finish_evaluates (by rfl) ((evaluateWait_proof (by rfl) (by rfl) (by rfl) (by rfl)).trans hev) hg hidle]

end Inside

/-! ### At BOUNDARY (R24): after the last step, and at a jam -/

/-- The film after a frame advance that ended well (R142). -/
def frameOn (i : Fin 4) (roll : Roll) (f : Film) : Film :=
  { f with state := .ready, flight := none, rolls := f.rolls.set i (some { roll with next := roll.next + 1 }) }

/-- The advance in flight after some time (R143). -/
theorem elapse_flight (n : Nat) (s : State) :
    (elapse n s).film.flight = s.film.flight.map fun a => { a with left := a.left - n } := by
  unfold elapse
  split
  · next h => cases s.film.flight <;> simp [h]
  · rfl

section Boundary
variable {d : Due} {fs : List Flag} {u : State} {c : Current} {x : SetCtx} {i : Fin 4} {h : Nat} {a : Advance} {roll : Roll}

theorem cameraSlot_frameOn (f : Film) (hr : f.rolls[i] = some roll) : cameraSlot (frameOn i roll f) = cameraSlot f :=
  findRoll_set (r' := { roll with next := roll.next + 1 }) hr rfl rfl

theorem mountingSlot_frameOn (f : Film) (hr : f.rolls[i] = some roll) : mountingSlot (frameOn i roll f) = mountingSlot f :=
  findRoll_set (r' := { roll with next := roll.next + 1 }) hr rfl rfl

/-- A frame advance that ends well while the sequencer awaits it (R105, R142). -/
theorem advanceEnds_awaited (ha : u.film.flight = some a) (hk : a.kind = .frame) (hst : u.seq.state = .advancing)
    (hi : cameraSlot u.film = some i) (hr : u.film.rolls[i] = some roll) :
    advanceEnds (stands d fs u) =
      advanceSucceeded (stands { d with wake := true } fs { u with film := frameOn i roll u.film }) := by
  have hi' : cameraSlot { u.film with state := .ready, flight := none } = some i := (findRoll_congr _ rfl).trans hi
  simp only [advanceEnds, stands_toState, ha, hk, if_true, flightStops, filmTo, stands_setFilm, hi', setRoll, changeRoll, hr,
    Option.map_some]
  rw [if_pos (by simp [awaitsAdvance, hst])]
  rfl

/-- After its last step a set ends COMPLETE (R105, R107). -/
theorem advanceSucceeded_last (hset : u.seq.set = some x) (hx : x.step = x.pattern.length) (ha : x.again = false) :
    advanceSucceeded (stands d fs u) = endSet true false (stands d fs u) := by
  simp [advanceSucceeded, hset, lastStep, hx, ha]

/-- A jam while the sequencer awaits its advance makes it wait on TRANSPORT (R105, R143). -/
theorem advanceJams_awaited (ha : u.film.flight = some a) (hk : a.kind = .frame) (hst : u.seq.state = .advancing)
    (hset : u.seq.set = some x) :
    advanceJams (stands d fs u) = enterSetWait .transport (stands { d with wake := true } (fs ++ [.jam])
      { u with film := { u.film with state := .faultJam .frame, flight := none } }) := by
  simp only [advanceJams, stands_toState, ha, hk, flightStops, filmTo, stands_setFilm, stands_setFlag]
  rw [if_pos (by simp [awaitsAdvance, hst])]
  simp [advanceStopped, hset]

/-- A set that ends with a change into SETUP or HOLD pending at BOUNDARY, the lamp on for the sequencer. -/
theorem finish_endSet_boundary (complete : Bool) (hb : u.modes.change = .boundary) (hw : u.modes.requested.working = false)
    (hset : u.seq.set = some x) (hh : x.head = some h) (hs : u.seq.slip = some c) (hi : cameraSlot u.film = some i)
    (hsh : u.shutter.opened = false) (hf : NoFeed u) (hl : u.lamp.state = .warming ∨ u.lamp.state = .lit)
    (hu : u.lamp.user = some .sequencer) (hlw : u.lamp.waiting = none) (hc : 0 < cooling u) :
    finish (endSet complete false (stands d fs u)) =
      parkedAfterSet (fs ++ [.mode]) (unlit (setOver complete c)) (darkened (setEnded complete i h c (modeTaken u))) := by
  rw [endSet_stands complete hset hh hs hi, if_pos hb, commitMode_stands (by exact hsh) (by exact hf),
    finish_parks_slipFate_on _ (by exact hw) (by rfl) (by rfl) (by exact hl) (by exact hu) (by exact hlw) (by exact hc)]
  rfl

/-- A wait on TRANSPORT of a set with a change into SETUP or HOLD pending at BOUNDARY, the lamp on for the sequencer. -/
theorem finish_enterSetWait_boundary (hb : u.modes.change = .boundary) (hw : u.modes.requested.working = false)
    (hset : u.seq.set = some x) (hh : x.head = some h) (hs : u.seq.slip = some c) (hi : cameraSlot u.film = some i)
    (hsh : u.shutter.opened = false) (hf : NoFeed u) (hl : u.lamp.state = .lit)
    (hu : u.lamp.user = some .sequencer) (hlw : u.lamp.waiting = none) (hc : 0 < cooling u) :
    finish (enterSetWait .transport (stands d fs u)) =
      parkedAfterSet (fs ++ [.mode]) (unlit (setOver false c)) (setEnded false i h c (modeTaken (darkened u))) := by
  have hlegal : boundaryCheck (enterWait .transport (stands d fs u)) = takeChange (enterWait .transport (stands d fs u)) := by
    rw [boundaryCheck, if_pos]
    rw [enterWait_lit _ (.inr hl) hu hc]
    exact ⟨by simpa [lightsOut, darkened] using hb, by simp [lightsOut, setLegalPoint]⟩
  rw [enterSetWait, hlegal, enterWait_lit _ (.inr hl) hu hc,
    takeChange_inside (c := unlit c) (by exact hset) hh (by simp [lightsOut, hs]) (by exact hi) (by exact hsh) (by exact hf),
    finish_parks_slipFate_dark _ (by exact hw) (by rfl) (by rfl) (lampServes_dark _ (.inr ⟨by rfl, by exact hlw⟩))]
  rfl

end Boundary

section BoundaryTaken
variable {s : State} {c : Current} {x : SetCtx} {i : Fin 4} {h : Nat} {a : Advance}
  (hb : s.modes.change = .boundary) (hw : s.modes.requested.working = false) (hst : s.seq.state = .advancing)
  (ha : s.film.flight = some a) (hk : a.kind = .frame) (hset : s.seq.set = some x) (hh : x.head = some h)
  (hs : s.seq.slip = some c) (hi : cameraSlot s.film = some i) (hsh : s.shutter.opened = false) (hf : NoFeed s)
  (hl : s.lamp.state = .lit) (hu : s.lamp.user = some .sequencer) (hlw : s.lamp.waiting = none)
include hb hw hst ha hk hset hh hs hi hsh hf hl hu hlw

/-- The change is taken as the set ends after its last step (R24, R107). -/
theorem exec_advanceEnd_boundary {roll : Roll} (hr : s.film.rolls[i] = some roll) (hx : x.step = x.pattern.length)
    (hagain : x.again = false) (hc : 0 < cooling s) :
    exec .advanceEnd s = .next (parkedAfterSet [.mode] (unlit (setOver true c))
      (darkened (setEnded true i h c (modeTaken { s with film := frameOn i roll s.film })))) := by
  have hf' : NoFeed { s with film := frameOn i roll s.film } := fun hh => (mountingSlot_frameOn _ hr).trans (hf hh)
  show Host.Outcome.next (finish (advanceEnds s.begin)) = _
  rw [begin_stands, advanceEnds_awaited ha hk hst hi hr, advanceSucceeded_last (by exact hset) hx hagain,
    finish_endSet_boundary true (by exact hb) (by exact hw) (by exact hset) hh (by exact hs)
      (by exact (cameraSlot_frameOn _ hr).trans hi) (by exact hsh) hf' (by exact .inr hl) (by exact hu) (by exact hlw)
      (by exact hc)]
  rfl

/-- The change is taken as a jam brings the wait on TRANSPORT (R24, R143). -/
theorem exec_advanceTimerExpiry_boundary (hc : 0 < cooling (elapse a.left s)) :
    exec .advanceTimerExpiry s = .next (parkedAfterSet [.jam, .mode] (unlit (setOver false c))
      (setEnded false i h c (modeTaken (darkened { elapse a.left s with
        film := { (elapse a.left s).film with state := .faultJam .frame, flight := none } })))) := by
  have hi' : cameraSlot { (elapse a.left s).film with state := .faultJam .frame, flight := none } = some i :=
    (findRoll_congr _ (elapse_rolls a.left s)).trans hi
  have hleft : untilJam s = some a.left := by simp [untilJam, ha]
  show expires (untilJam s) advanceJams s = _
  rw [hleft, expires_running, begin_stands,
    advanceJams_awaited (x := x) (a := { a with left := a.left - a.left }) (by simp [elapse_flight, ha]) hk (by simpa using hst)
      (by simpa using hset),
    finish_enterSetWait_boundary (x := x) (h := h) (c := c) (i := i) (by simpa using hb) (by simpa using hw)
      (by simpa using hset) hh (by simpa using hs) (by exact hi') (by simpa using hsh) (by exact noFeed_elapse hf)
      (by simpa using hl) (by simpa using hu) (by simpa using hlw) (by exact hc)]
  rfl

end BoundaryTaken

/-! ### At CAL (R25, R73) -/

/-- A calibration over, its lamp dark (R72 to R74). -/
def calibrationOver (u : State) : State := { lightsOut u with meter := { meterFree u.meter with calibrating := false } }

section Cal
variable {d : Due} {fs : List Flag} {u : State}

theorem calibrationEnds_on (hl : u.lamp.state = .warming ∨ u.lamp.state = .lit) (hu : u.lamp.user = some .calibration)
    (hc : 0 < cooling u) :
    calibrationEnds (stands d fs u) =
      if u.modes.change = .cal then takeChange (stands d fs (calibrationOver u)) else stands d fs (calibrationOver u) := by
  rw [calibrationEnds, extinguishFor_on hl hu hc]
  simp only [stands_toState, stands_setMeter]
  rfl

/-- A gate overrun of a calibration ends it with METER set, and a change pending at CAL is taken from SETUP or HOLD, the
sequencer resuming (R25, R66, R73). -/
theorem exec_gateOverrun_atCal {s : State} {j : MeterJob} (hw : s.modes.requested.working = true)
    (hch : s.modes.change = .cal) (ho : s.modes.current.working = false) (hph : s.meter.phase = .gate)
    (hj : s.meter.job = some j) (hju : j.user = .calibration) (hl : s.lamp.state = .lit)
    (hu : s.lamp.user = some .calibration) (hc : 0 < cooling s) (hset : s.seq.set = none) (hsh : s.shutter.opened = false)
    (hf : NoFeed s) :
    exec .gateOverrun s = .next (finish (resume (stands { wake := true, arb := s.modes.requested.working } [.meter, .mode]
      (modeTaken (calibrationOver { s with meter := { s.meter with count := 16777215 } }))))) := by
  have hfails : gateOverruns (counterAtTop s.begin) = calibrationEnds (stands {} [.meter]
      { s with meter := { meterFree s.meter with count := 16777215 } }) := by
    rw [begin_stands, counterAtTop, gateOverruns, stands_setMeter, stands_setFlag]
    simp [meteringFails, hj, hju, meterStops, meterFree]
  show Host.Outcome.next (finish (inPhase .gate (fun e => gateOverruns (counterAtTop e)) s.begin)) = _
  rw [inPhase, if_pos (by exact hph), hfails, calibrationEnds_on (by exact .inr hl) (by exact hu) (by exact hc),
    if_pos (by exact hch), takeChange_outside (by exact hset) (by exact hsh) (by exact hf),
    respondMode_resumes (by exact hw) (by exact ho)]
  rfl

end Cal

/-- Settles O13: what an MD card's change, one at BOUNDARY and one at CAL bring is told by the sequencer's response (R110,
R111) and by the slip's fate after a set (R107). -/
theorem modeChangeTaken : Obligations.ModeChangeTaken := by
  refine ⟨?outside, ?working, ?inside, ?intoProof, ?atCal⟩
  case outside =>
    intro s m htx hm hset hsh hcal hf
    refine ⟨fun hpark hl hst => ?_, fun hpark hl hst => ?_, fun c hpark hst hs hl hu hc => ?_, fun hgo ho hq => ?_⟩
    · have hkept : parkedSeq s.seq = s.seq := by rcases hst with h | h | h <;> simp [parkedSeq, h]
      rw [exec_md_parks htx hm hset hsh hf ((not_working_iff m).2 hpark) hl, hkept]
      rfl
    · have hready : parkedSeq s.seq = { s.seq with wait := none } := by simp [parkedSeq, hst]
      rw [exec_md_parks htx hm hset hsh hf ((not_working_iff m).2 hpark) hl, hready]
      rfl
    · rw [exec_md_parks_lit htx hm hset hsh hf ((not_working_iff m).2 hpark) hst hs hl hu hc]
      rfl
    · have hresume := exec_md_resumes htx hset hsh hf hcal ((working_iff m).2 hgo) ((not_working_iff _).2 ho)
      refine ⟨fun hst => ?_, fun hst hs hg => ?_, fun hst hg => ?_, fun hst hg hl hw => ?_⟩
      · rw [hresume, resume_idle (by exact hst),
          finish_atRest (by exact atRest_of_idle hst fun k => testedHead_none (hq hst k))]
        rfl
      · rw [hresume, resume_awaits (by exact hg) (by exact .inl ⟨hst, hs⟩),
          finish_atRest (atRest_of_state (by simp) (by simp))]
        rfl
      · rw [hresume, resume_awaits (by exact hg) (by exact .inr hst), finish_atRest (atRest_of_state (by simp) (by simp))]
        rfl
      · rw [hresume, resume_lights (by exact hg) (by exact hst) (by exact hl) (by exact hw),
          finish_atRest (atRest_of_state (by simp) (by simp))]
        rfl
  case working =>
    intro s m htx hm hgo ho hset hsh hf
    have hw := (working_iff m).2 hgo
    have hwo := (working_iff _).2 ho
    refine ⟨fun hq hst => exec_md_keeps htx hm hset hsh hf hw hwo hst hq, fun hst hs hl => ⟨?_, ?_⟩,
      fun hst hs hl hu => ?_⟩
    · rintro rfl hi
      obtain ⟨c, hs⟩ := Option.isSome_iff_exists.1 hs
      exact exec_md_run_waits htx (ho.resolve_left (Ne.symm hm)) hset hsh hf hst hs (.inr hl)
        (evaluateSetStart_noRoll (by exact hl) (by exact hi))
    · rintro rfl hj hwarm
      obtain ⟨c, hs⟩ := Option.isSome_iff_exists.1 hs
      rw [exec_md_proof htx (ho.resolve_right (Ne.symm hm)) hset hsh hf hst hs rfl (by simp)
        ((proofChecks_unlit (by simp [changedTo, sends, hl]) (lightingReady_unlit (by simp [changedTo, sends, hl]))).trans
          (awaitLighting_idle (by exact hj) (by exact hl) (by exact hwarm)))]
      rfl
    · obtain ⟨c, hs⟩ := Option.isSome_iff_exists.1 hs
      have hunlit : s.lamp.user ≠ some .sequencer := by simp [hu]
      rcases hgo with rfl | rfl
      · rw [exec_md_run_waits htx (ho.resolve_left (Ne.symm hm)) hset hsh hf hst hs (.inl hunlit)
          (evaluateSetStart_dark (by exact hl))]
        by_cases hr : awaitsRoll s.film = true
        · simp [changedTo, sends, hr]
        · simp [changedTo, sends, hr]
      · rw [exec_md_proof htx (ho.resolve_right (Ne.symm hm)) hset hsh hf hst hs rfl (by simp)
          ((proofChecks_dark (by exact hl)).trans (enterWait_unlit _ (.inl (by exact hunlit))))]
        simp [changedTo, sends, ← hst]
  case inside =>
    intro s m x c i h hpark hrun hset hh hs hi hsh hf
    have hw := (not_working_iff m).2 hpark
    have hne : m ≠ .run := by rcases hpark with rfl | rfl <;> simp
    refine ⟨fun htx hp => ?_, fun a roll hb hreq hst ha hk hr hl hu hlw => ⟨fun hx hagain hc => ?_, fun hc => ?_⟩⟩
    · have hexec := exec_md_legalPoint htx hrun hne hp hset hh hs hi hsh hf
      refine ⟨fun hl => ?_, fun hl hu hlw hc => ?_⟩
      · rw [hexec, finish_parks_slipFate_dark _ (by exact hw) (by rfl) (by rfl) (lampServes_dark _ (by exact hl))]
        rfl
      · rw [hexec, finish_parks_slipFate_on _ (by exact hw) (by rfl) (by rfl) (by exact hl) (by exact hu) (by exact hlw)
          (by exact hc)]
        rfl
    · rw [exec_advanceEnd_boundary hb (by rwa [hreq]) hst ha hk hset hh hs hi hsh hf hl hu hlw hr hx hagain hc]
      simp only [modeTaken, hreq]
      rfl
    · rw [exec_advanceTimerExpiry_boundary hb (by rwa [hreq]) hst ha hk hset hh hs hi hsh hf hl hu hlw hc, ← hreq,
        ← elapse_modes a.left s, ← elapse_records a.left s]
      rfl
  case intoProof =>
    intro s x c i h htx hrun hset hh hs hi hp hcopy hsh hf
    have hon : ¬ SlipEnds (setOver false c) := by simp [SlipEnds, setOver, hp, hcopy]
    refine ⟨fun hst hwait hl hu => ?_, fun j hst hj hju hl hmet => ?_⟩
    · have hunlit : s.lamp.user ≠ some .sequencer := by simp [hu]
      rw [exec_md_proof_inside htx hrun (.inr (.inr ⟨hst, .inr hwait⟩)) hset hh hs hi hsh hf hon rfl (by simp)
        ((proofChecks_dark (by exact hl)).trans (enterWait_unlit _ (.inl (by exact hunlit))))]
      rfl
    · have hready : lightingReady (nextCopy (setOver false c) (setEnded false i h c (changedTo .proof s))) = false := by
        simp [lightingReady, nextCopy, setOver, hmet]
      rw [exec_md_proof_inside htx hrun (.inr (.inl hst)) hset hh hs hi hsh hf hon rfl (by simp)
        ((proofChecks_unlit (by simp [nextCopy, setEnded, changedTo, sends, hl]) hready).trans
          (awaitLighting_metering (by exact hj) hju))]
      rfl
  case atCal =>
    intro s j m hgo hreq hch ho hph hj hju hl hu hc hset hsh hf
    subst hreq
    have hexec := exec_gateOverrun_atCal ((working_iff _).2 hgo) hch ((not_working_iff _).2 ho) hph hj hju hl hu hc hset hsh hf
    refine ⟨fun hst hq => ?_, fun hst hg => ?_⟩
    · rw [hexec, resume_idle (by exact hst),
        finish_atRest (by exact atRest_of_idle hst fun k => testedHead_none (hq k))]
      rfl
    · rw [hexec, resume_awaits (by exact hg) (by exact .inr hst), finish_atRest (atRest_of_state (by simp) (by simp))]
      rfl

end Sys2Proof.Machine
end

section
/-! Counted edges (O43): what an edge of each input brings, from the counted edge to the end of its event. -/

namespace Sys2Proof.Machine

/-! ### A counted edge (R129 to R131) -/

/-- The state in which a counted edge is handed on: the time passed, the edge counted. -/
def counted (n : Nat) (s : State) (i : Input) : State := { elapse n s with inputs := edgeCounted n s i }

/-- The flags a counted edge sets (R131). -/
def edgeFlags (st : StandEntry) (i : Input) (rises : Bool) : List Flag :=
  if marksEdge st i rises then match i with | .door => [.door] | .rollEnd => [.roll] | .pause => [.pause] | _ => [] else []

/-- The kind of an edge. -/
def edgeKind (rises : Bool) : EdgeKind := if rises then .rise else .fall

theorem edgeSeenBy_edgeKind (st : StandEntry) (i : Input) (rises : Bool) :
    edgeSeenBy st i (edgeKind rises) = marksEdge st i rises := by
  have hmatch : ∀ x : EventEdge, edgeMatches x (edgeKind rises) = matchesEdge x rises := by
    intro x
    cases x <;> cases rises <;> rfl
  cases i
  case mark => cases rises <;> rfl
  all_goals exact hmatch _

theorem elapse_inputs (n : Nat) (s : State) : (elapse n s).inputs = s.inputs.after n := by
  unfold elapse
  split
  · next h => simp [Inputs.after, InputLine.after, timerAfter_zero, h]
  · rfl

/-- Time changes nothing of the film but the advance in flight. -/
theorem elapse_film_at (n : Nat) (s : State) (st : FilmState) (fl : Option Advance) :
    { (elapse n s).film with state := st, flight := fl } = { s.film with state := st, flight := fl } := by
  unfold elapse; split <;> rfl

theorem after_line (n : Nat) (x : Inputs) (i : Input) : (x.after n).line i = (x.line i).after n := by cases i <;> rfl

/-- An edge counted while the exposure is fit, or the shutter CLOSED, is handed to its block (R128 to R130). -/
theorem exec_debounceExpiry {n : Nat} {s : State} {i : Input} (ht : (s.inputs.line i).timer = some n)
    (hr : (s.inputs.line i).raw ≠ (s.inputs.line i).debounced)
    (hc : closeUnfit (stands {} [] (counted n s i)) = stands {} [] (counted n s i)) :
    exec (.debounceExpiry i) s = .next (finish (routeEdge i (edgeKind (s.inputs.line i).raw)
      (stands {} (edgeFlags s.stand i (s.inputs.line i).raw) (counted n s i)))) := by
  have hline : (elapse n s).inputs.line i = (s.inputs.line i).after n := by rw [elapse_inputs, after_line]
  have hlevel : decide (edgeKind (s.inputs.line i).raw = .rise) = (s.inputs.line i).raw := by
    cases (s.inputs.line i).raw <;> rfl
  have hcount : debounceEnds i (elapse n s).begin = countEdge i (edgeKind (s.inputs.line i).raw) (elapse n s).begin := by
    simp only [debounceEnds, begin_toState, hline, InputLine.after]
    rw [if_neg hr]
    rfl
  have hset : (elapse n s).begin.setInputs ((elapse n s).inputs.put i
      { (elapse n s).inputs.line i with
        debounced := decide (edgeKind (s.inputs.line i).raw = .rise), timer := none
        edgeSeen := ((elapse n s).inputs.line i).edgeSeen || marksEdge s.stand i (s.inputs.line i).raw })
      = stands {} [] (counted n s i) := by
    rw [hlevel, hline, elapse_inputs]
    rfl
  have hflag : (if marksEdge s.stand i (s.inputs.line i).raw = true then edgeFlag i (stands {} [] (counted n s i))
      else stands {} [] (counted n s i)) = stands {} (edgeFlags s.stand i (s.inputs.line i).raw) (counted n s i) := by
    unfold edgeFlags
    split
    · cases i <;> rfl
    · rfl
  show expires (s.inputs.line i).timer (debounceEnds i) s = _
  rw [ht, expires_running, hcount, countEdge]
  simp only [begin_toState, elapse_stand, hset, hc, edgeSeenBy_edgeKind, hflag]

/-- The same with the shutter CLOSED. -/
theorem exec_debounceExpiry_closed {n : Nat} {s : State} {i : Input} (hsh : s.shutter.opened = false)
    (ht : (s.inputs.line i).timer = some n) (hr : (s.inputs.line i).raw ≠ (s.inputs.line i).debounced) :
    exec (.debounceExpiry i) s = .next (finish (routeEdge i (edgeKind (s.inputs.line i).raw)
      (stands {} (edgeFlags s.stand i (s.inputs.line i).raw) (counted n s i)))) :=
  exec_debounceExpiry ht hr (closeUnfit_stands ((elapse_opened n s).trans hsh))

/-- A flag that the edge may have set already is set once. -/
theorem stands_edgeFlags (d : Due) (u : State) {fs : List Flag} {f : Flag} (h : fs = [f] ∨ fs = []) :
    stands d (fs ++ [f]) u = stands d [f] u := by
  rcases h with rfl | rfl
  · exact stands_twice d f u
  · rfl

theorem edgeFlags_rollEnd (st : StandEntry) (b : Bool) :
    edgeFlags st .rollEnd b = [.roll] ∨ edgeFlags st .rollEnd b = [] := by
  unfold edgeFlags; split <;> simp
theorem edgeFlags_door (st : StandEntry) (b : Bool) : edgeFlags st .door b = [.door] ∨ edgeFlags st .door b = [] := by
  unfold edgeFlags; split <;> simp
theorem edgeFlags_gate (st : StandEntry) (b : Bool) : edgeFlags st .gate b = [] := by unfold edgeFlags; split <;> rfl
theorem edgeFlags_mark (st : StandEntry) (b : Bool) : edgeFlags st .mark b = [] := by unfold edgeFlags; split <;> rfl

/-! ### The transport (R140, R142, R144) -/

section Transport
variable {d : Due} {fs : List Flag} {u : State} {a : Advance}

theorem advanceEnds_leader (ha : u.film.flight = some a) (hk : a.kind = .leader) :
    advanceEnds (stands d fs u) =
      stands { d with wake := true } fs { u with film := { u.film with state := .ready, flight := none } } := by
  simp [advanceEnds, ha, hk, flightStops, filmTo, awaitsAdvance]

/-- The roll end stops an advance that nothing awaits in SUSPENDED(SENSOR) (R144). -/
theorem rollEndRises_unawaited (ha : u.film.flight = some a) (hn : a.kind = .leader ∨ u.seq.state ≠ .advancing) :
    rollEndRises (stands d fs u) = stands { d with wake := true } (fs ++ [.roll])
      { u with film := { u.film with state := .suspSensor a.kind, flight := none } } := by
  have hun : ¬ (a.kind = .frame ∧ u.seq.state = .advancing) := by
    rintro ⟨hk, hst⟩
    rcases hn with hn | hn
    · simp [hk] at hn
    · exact hn hst
  simp [rollEndRises, ha, flightStops, filmTo, awaitsAdvance, hun]

/-- The door's closing starts the leader advance that waits for it (R140). -/
theorem doorCloses_starts (hst : u.film.state = .loading) (hfl : u.film.flight = none)
    (hre : u.inputs.rollEnd.debounced = false) :
    doorCloses (stands d fs u) = stands { d with wake := true } fs { u with film := { u.film with
      state := .loading
      flight := some
        { kind := .leader, edge := u.stand.markEdge, left := u.stand.advanceTimeout * Config.ms } } } := by
  simp [doorCloses, hst, hfl, startAdvance_eq, hre]

end Transport

/-! ### The original (R74, R94, R96) -/

section Gate
variable {d : Due} {fs : List Flag} {u : State} {c : Current} {x : SetCtx} {i : Fin 4} {h : Nat}

/-- The original's arrival in LOADING asks for the lamp (R94). -/
theorem gateRises_loading (hst : u.seq.state = .loading) (hm : u.modes.current.working = true)
    (hcal : u.meter.calibrating = false) (hl : u.lamp.state = .off) (hw : u.meter.entry.warmUp ≠ 0) :
    gateRises (stands d fs u) = stands d fs { u with
      seq := { u.seq with state := .warming, wait := none }
      lamp := { u.lamp with
        state := .warming, user := some .sequencer, lit := 0, warmUp := some (u.meter.entry.warmUp * 10 * Config.ms) } } := by
  have hin : originalIn (stands d fs u) = _ := lightLamp_warming hl hw
  simp [gateRises, hst, hm, hin, hcal]

/-- The original's arrival ends a calibration in flight with METER set (R74). -/
theorem gateRises_calibrating (hm : u.modes.current.working = false) (hcal : u.meter.calibrating = true)
    (hch : u.modes.change ≠ .cal) (hl : u.lamp.state = .warming ∨ u.lamp.state = .lit)
    (hu : u.lamp.user = some .calibration) (hc : 0 < cooling u) :
    gateRises (stands d fs u) = stands d (fs ++ [.meter]) (calibrationOver u) := by
  simp only [gateRises, stands_toState, hm, Bool.false_eq_true, false_and, if_false, hcal, if_true, stands_setFlag]
  rw [calibrationEnds_on hl hu hc, if_neg hch]

theorem gateFalls_removal (hm : u.modes.current.working = true) (hst : u.seq.state = .removal) :
    gateFalls (stands d fs u) =
      if u.seq.slip.isSome then stands d (fs ++ [.original]) { u with seq := { u.seq with state := .loading, wait := none } }
      else stands { d with arb := true } fs { u with seq := { u.seq with state := .idle, wait := none } } := by
  simp [gateFalls, hm, hst, awaitOriginal_stands, seqTo]

/-- The original's departure in a state other than EXPOSING in which a slip's lighting or set is in hand is R96's removal. -/
theorem gateFalls_walk (hm : u.modes.current.working = true)
    (hst : u.seq.state = .warming ∨ u.seq.state = .metering ∨ u.seq.state = .setReady ∨ u.seq.state = .advancing) :
    gateFalls (stands d fs u) =
      let e := endSet false false (extinguishFor .sequencer (stands d fs u))
      if e.seq.slip.isSome then awaitOriginal e else e := by
  rcases hst with h | h | h | h
  all_goals simp [gateFalls, hm, h, originalRemoved]

/-- The slip waits for its original in LOADING, with no wait cause and no set (R96). -/
def awaiting (c : Current) (u : State) : State :=
  { u with seq := { state := .loading, wait := none, set := none, slip := some c } }

variable {u' : State}

/-- A removal outside a set, the lamp gone dark for it where it was the sequencer's (R96). -/
theorem finish_removal_outside (hm : u.modes.current.working = true)
    (hst : u.seq.state = .warming ∨ u.seq.state = .metering ∨ u.seq.state = .setReady ∨ u.seq.state = .advancing)
    (hx : extinguishFor .sequencer (stands d fs u) = stands d fs u') (hset : u'.seq.set = none) (hs : u'.seq.slip = some c) :
    finish (gateFalls (stands d fs u)) =
      { awaiting c u' with line := raised u'.stand (fs ++ [.original]) u'.line } := by
  rw [gateFalls_walk hm hst, hx, endSet_outside _ _ hset]
  simp only [stands_toState, hs, Option.isSome_some, if_true]
  rw [awaitOriginal_stands, finish_atRest (atRest_of_state (by simp) (by simp))]
  simp [awaiting, hset, hs]

/-- A removal inside a set with copies left: the set ends INCOMPLETE, and the slip waits with its next copy (R96, R107). -/
theorem finish_removal_inside (hm : u.modes.current.working = true)
    (hst : u.seq.state = .warming ∨ u.seq.state = .metering ∨ u.seq.state = .setReady ∨ u.seq.state = .advancing)
    (hx : extinguishFor .sequencer (stands d fs u) = stands d fs u') (hset : u'.seq.set = some x) (hh : x.head = some h)
    (hs : u'.seq.slip = some c) (hi : cameraSlot u'.film = some i) (hb : u'.modes.change ≠ .boundary)
    (he : ¬ SlipEnds (setOver false c)) :
    finish (gateFalls (stands d fs u)) =
      { awaiting { setOver false c with copy := c.copy + 1 } { u' with records := headMarked i h .incomplete u'.records } with
        line := raised u'.stand (fs ++ [.original]) u'.line } := by
  rw [gateFalls_walk hm hst, hx, endSet_stands false hset hh hs hi, if_neg hb, slipFate_goesOn (by rfl) he]
  simp only [stands_toState, nextCopy, Option.isSome_some, if_true]
  rw [awaitOriginal_stands, finish_atRest (atRest_of_state (by simp) (by simp))]
  rfl

/-- A removal inside the set of a slip's last copy, or of a cancelled slip, with no head for the arbiter: the slip ends. -/
theorem finish_removal_last (hm : u.modes.current.working = true)
    (hst : u.seq.state = .warming ∨ u.seq.state = .metering ∨ u.seq.state = .setReady ∨ u.seq.state = .advancing)
    (hx : extinguishFor .sequencer (stands d fs u) = stands d fs u') (hset : u'.seq.set = some x) (hh : x.head = some h)
    (hs : u'.seq.slip = some c) (hi : cameraSlot u'.film = some i) (hb : u'.modes.change ≠ .boundary)
    (he : SlipEnds (setOver false c)) (hl : lampServes .sequencer u'.lamp = false) (hg : u'.inputs.gate.debounced = false)
    (hq : ∀ k : Fin 8, testedHead u' k = none) :
    finish (gateFalls (stands d fs u)) =
      slipOut fs (setEnding (setOver false c)) (setOver false c)
        { u' with records := headMarked i h .incomplete u'.records } := by
  rw [gateFalls_walk hm hst, hx, endSet_stands false hset hh hs hi, if_neg hb, slipFate_ends (by rfl) he,
    slipEnd_dark (setEnding_ne_proofed _) (by rfl) (by exact hl)]
  simp only [stands_toState]
  rw [if_neg (by simp [slipGone]), finish_atRest (by exact atRest_of_idle (by simp [slipGone, setEnded, hg]) hq), slipOut_eq]
  rfl

end Gate

/-! ### The door (R106, R140, R148) -/

section Door
variable {d : Due} {fs : List Flag} {u : State} {c : Current} {x : SetCtx} {i : Fin 4} {h : Nat} {roll : Roll}

theorem doorOpens_stays
    (h : u.film.state = .noRoll ∨ u.film.state = .faultDoor ∨ u.film.state = .loading ∧ u.film.flight = none) :
    doorOpens (stands d fs u) = stands d fs u := by
  rcases h with h | h | ⟨h, hf⟩
  · simp [doorOpens, h]
  · simp [doorOpens, h]
  · simp [doorOpens, h, hf]

/-- The door's opening withdraws a leader advance in LOADING (R140). -/
theorem doorOpens_withdraws (h : u.film.state = .loading) (hf : u.film.flight.isSome = true) :
    doorOpens (stands d fs u) = stands { d with wake := true } fs { u with film := { u.film with flight := none } } := by
  simp [doorOpens, h, hf, flightStops]

/-- Fees of several records reversed one after another: each account is less by the fees of its own (R194). -/
theorem postAll_reversal_get (rs : List Record) (a : Accounts) (j : Fin 64) :
    (postAll postReversal rs a)[j] = { a[j] with provisional := (a[j]).provisional - feesOf (fun _ => true) j rs } := by
  induction rs generalizing a with
  | nil => simp [postAll, feesOf]
  | cons r rs ih =>
    have hcons : postAll postReversal (r :: rs) a = postAll postReversal rs (postReversal r.account r.fee a) := rfl
    rw [hcons, ih, postReversal, changeAccount_get]
    by_cases hj : r.account = j
    · simp [feesOf, hj, Nat.sub_sub]
    · simp [feesOf, hj]

/-- The fees a fog reverses (R158, R194). -/
theorem fogRoll_accounts (i : Fin 4) (rs : List Record) (m : Money) :
    postAll postReversal (rs.filter fun r => decide (r.slot = i) && r.fogReverses) m.accounts
      = (reversed (fun r => decide (r.slot = i ∧ r.kind = .exposed ∧ r.charge = .provisional)) rs m).accounts := by
  refine Vector.ext fun j hj => ?_
  have hget := postAll_reversal_get (rs.filter fun r => decide (r.slot = i) && r.fogReverses) m.accounts ⟨j, hj⟩
  rw [Fin.getElem_fin] at hget
  rw [hget]
  simp [reversed, feesOf, Record.fogReverses, List.filter_filter]

/-- The records a fog changes (R158). -/
theorem fogRoll_records (i : Fin 4) (rs : List Record) :
    changeRecords (fun r => decide (r.slot = i)) Record.afterFog rs = rs.map fun r =>
      if r.slot = i ∧ (r.kind = .exposing ∨ r.kind = .exposed) then
        { r with
          kind := .fogged
          charge := if r.kind = .exposing then .none else if r.charge = .provisional then .reversed else r.charge }
      else r := by
  refine List.map_congr_left fun r _ => ?_
  by_cases hs : r.slot = i
  · cases hk : r.kind <;> simp [hs, hk, Record.afterFog]
  · simp [hs]

/-- The door's opening in the other states fogs the camera roll, and the sequencer is told (R148). -/
theorem doorOpens_fogs (hno : u.film.state ≠ .noRoll) (hfd : u.film.state ≠ .faultDoor) (hld : u.film.state ≠ .loading)
    (hi : cameraSlot u.film = some i) (hr : u.film.rolls[i] = some roll) :
    doorOpens (stands d fs u) =
      sequencerDoor (stands { d with wake := true } (fs ++ [.door]) (fogged i roll u)) := by
  have hi' : cameraSlot { u.film with flight := none } = some i := (findRoll_congr _ rfl).trans hi
  have hfogs : doorFogs (flightStops (stands d fs u)) =
      sequencerDoor (stands { d with wake := true } (fs ++ [.door]) (fogged i roll u)) := by
    simp only [doorFogs, flightStops, stands_toState, stands_setFilm, hi', setRoll, changeRoll, hr, Option.map_some,
      fogRoll, posted, stands_setRecords, stands_setMoney, stands_woken, fogRoll_records, fogRoll_accounts, filmTo,
      stands_setFlag]
    rfl
  rw [← hfogs]
  cases hst : u.film.state <;> simp_all [doorOpens]

theorem cameraSlot_fogged (hi : cameraSlot u.film = some i) (hr : u.film.rolls[i] = some roll) :
    cameraSlot (fogged i roll u).film = some i :=
  (findRoll_set (r' := { roll with fogged := true }) hr rfl rfl).trans hi

theorem sequencerDoor_outside (hset : u.seq.set = none) :
    sequencerDoor (stands d fs u) = stands { d with wake := true } fs u := by simp [sequencerDoor, insideSet, hset]

/-- A set that ends at a door opening with copies left: its slip goes on to its next copy (R106, R107). -/
theorem sequencerDoor_inside (hsh : u.shutter.opened = false) (hset : u.seq.set = some x) (hh : x.head = some h)
    (hs : u.seq.slip = some c) (hi : cameraSlot u.film = some i) (hb : u.modes.change ≠ .boundary)
    (he : ¬ SlipEnds (setOver false c)) :
    sequencerDoor (stands d fs u) =
      stands { d with go := true } fs (nextCopy (setOver false c) (setEnded false i h c u)) := by
  rw [sequencerDoor, if_pos (by simp [insideSet, hset]), closeShutter_closed _ (by simpa using hsh),
    endSet_stands false hset hh hs hi, if_neg hb, slipFate_goesOn (by rfl) he]

/-- A set start evaluated in FAULT(DOOR) waits with cause ROLL (R106). -/
theorem evaluateWait_faultDoor {told : Bool} (hst : u.seq.state = .setReady) (hset : u.seq.set = none)
    (hs : u.seq.slip = some c) (hm : u.modes.current = .run) (hf : u.film.state = .faultDoor) :
    evaluateWait told (stands d fs u) = enterWait .roll (stands d fs u) := by
  rw [evaluateWait_run hst hset hs hm, evaluateSetStart_awaited]
  simp [rollAwaited, hf]

end Door

end Sys2Proof.Machine
end

section
/-! Where counted edges go (O43), assembled from the course of each edge. -/

namespace Sys2Proof.Machine

/-- A counted rise or fall with the shutter CLOSED is handed to its block. -/
theorem exec_debounceExpiry_level {n : Nat} {s : State} {i : Input} {b : Bool} (hsh : s.shutter.opened = false)
    (ht : (s.inputs.line i).timer = some n) (hb : (s.inputs.line i).raw = b) (hd : (s.inputs.line i).debounced = !b) :
    exec (.debounceExpiry i) s =
      .next (finish (routeEdge i (edgeKind b) (stands {} (edgeFlags s.stand i b) (counted n s i)))) := by
  rw [exec_debounceExpiry_closed hsh ht (by rw [hb, hd]; cases b <;> simp), hb]

theorem undisturbed_counted {n : Nat} {s : State} {i : Input} (h : undisturbed s = true) :
    undisturbed (counted n s i) = true := by simpa [undisturbed, counted] using h

theorem raised_nil (st : StandEntry) (x : LineState) : raised st [] x = x := by
  simp [raised, joinFlags, newEnabled]

section Courses
variable {n : Nat} {s : State} {a : Advance} {c : Current}

/-- A MARK edge of the kind a leader advance reads ends it (R142). -/
theorem exec_mark_leader (hsh : s.shutter.opened = false) (ht : s.inputs.mark.timer = some n)
    (hr : s.inputs.mark.raw = !s.inputs.mark.debounced) (ha : s.film.flight = some a) (hk : a.kind = .leader)
    (hae : a.edge = s.stand.markEdge) (hse : s.stand.markEdge = edgeKind s.inputs.mark.raw) (hu : undisturbed s = true) :
    exec (.debounceExpiry .mark) s = .next { elapse n s with
      inputs := edgeCounted n s .mark, film := { s.film with state := .ready, flight := none } } := by
  have hne : s.inputs.mark.raw ≠ s.inputs.mark.debounced := by simp [hr]
  have hfl : (counted n s .mark).film.flight = some { a with left := a.left - n } :=
    (elapse_flight n s).trans (by rw [ha]; rfl)
  have hroute : routeEdge .mark (edgeKind s.inputs.mark.raw) (stands {} [] (counted n s .mark))
      = advanceEnds (stands {} [] (counted n s .mark)) := by
    have hedge : (counted n s .mark).stand.markEdge = edgeKind s.inputs.mark.raw := by
      rw [← hse]; exact congrArg _ (elapse_stand n s)
    simp only [routeEdge, markEdge, stands_toState, hedge, if_true, hfl, hae, hse]
  rw [exec_debounceExpiry_closed (i := .mark) hsh ht hne, edgeFlags_mark]
  show Host.Outcome.next (finish (routeEdge .mark (edgeKind s.inputs.mark.raw) _)) = _
  rw [hroute, advanceEnds_leader hfl hk, finish_stands_undisturbed rfl
    (by exact undisturbed_counted (i := .mark) hu), ← elapse_film_at n s]
  rfl

/-- A roll-end rise stops an advance that nothing awaits (R144). -/
theorem exec_rollEnd_stops (hsh : s.shutter.opened = false) (ht : s.inputs.rollEnd.timer = some n)
    (hr : s.inputs.rollEnd.raw = true) (hd : s.inputs.rollEnd.debounced = false) (ha : s.film.flight = some a)
    (hn : a.kind = .leader ∨ s.seq.state ≠ .advancing) (hu : undisturbed s = true) :
    exec (.debounceExpiry .rollEnd) s = .next { elapse n s with
      inputs := edgeCounted n s .rollEnd, film := { s.film with state := .suspSensor a.kind, flight := none }
      line := raised s.stand [.roll] (elapse n s).line } := by
  have hfl : (counted n s .rollEnd).film.flight = some { a with left := a.left - n } :=
    (elapse_flight n s).trans (by rw [ha]; rfl)
  have hun : a.kind = .leader ∨ (counted n s .rollEnd).seq.state ≠ .advancing := by simpa [counted] using hn
  rw [exec_debounceExpiry_level (i := .rollEnd) hsh ht hr hd]
  show Host.Outcome.next (finish (rollEndRises _)) = _
  rw [rollEndRises_unawaited hfl hun, stands_edgeFlags _ _ (edgeFlags_rollEnd _ _),
    finish_stands_undisturbed rfl (by exact undisturbed_counted (i := .rollEnd) hu), ← elapse_stand n s,
    ← elapse_film_at n s]
  rfl

/-- A pause fall does nothing but set its flag (R28, R131). -/
theorem exec_pause_falls (hsh : s.shutter.opened = false) (ht : s.inputs.pause.timer = some n)
    (hr : s.inputs.pause.raw = false) (hd : s.inputs.pause.debounced = true) :
    exec (.debounceExpiry .pause) s = .next { elapse n s with
      inputs := edgeCounted n s .pause
      line := raised s.stand (edgeFlags s.stand .pause false) (elapse n s).line } := by
  rw [exec_debounceExpiry_level (i := .pause) hsh ht hr hd]
  show Host.Outcome.next (finish (stands _ _ _)) = _
  rw [finish_undue, ← elapse_stand n s]
  rfl

/-- A pause rise inside a set, at no legal point, leaves HOLD pending at BOUNDARY (R24, R28). -/
theorem exec_pause_pends (hc : closeUnfit (stands {} [] (counted n s .pause)) = stands {} [] (counted n s .pause))
    (ht : s.inputs.pause.timer = some n)
    (hr : s.inputs.pause.raw = true) (hd : s.inputs.pause.debounced = false) (hrun : s.modes.current = .run)
    (hset : s.seq.set.isSome = true) (hst : s.seq.state = .exposing ∨ s.seq.state = .advancing) :
    exec (.debounceExpiry .pause) s = .next { elapse n s with
      inputs := edgeCounted n s .pause
      line := raised s.stand (edgeFlags s.stand .pause true) (elapse n s).line
      modes := { requested := .hold, current := .run, change := .boundary } } := by
  have hrun' : (counted n s .pause).modes.current = .run := by simpa [counted] using hrun
  have hset' : (counted n s .pause).seq.set.isSome = true := by simpa [counted] using hset
  have hpoint : setLegalPoint (counted n s .pause).seq = false := by
    rcases hst with h | h
    · simp [counted, setLegalPoint, h]
    · simp [counted, setLegalPoint, h]
  have hpends : requestMode .hold (stands {} (edgeFlags s.stand .pause true) (counted n s .pause)) =
      stands {} (edgeFlags s.stand .pause true)
        { counted n s .pause with modes := { requested := .hold, current := .run, change := .boundary } } := by
    rw [requestMode_pends (by rw [hrun']; simp) ((changeLegal_inside hrun' hset').trans hpoint)]
    simp only [hrun', if_true]
  rw [exec_debounceExpiry (i := .pause) ht (by simp [Inputs.line, hr, hd]) hc]
  simp only [Inputs.line, hr]
  show Host.Outcome.next (finish (requestMode .hold _)) = _
  rw [hpends, finish_undue, ← elapse_stand n s]
  rfl

/-- The original's arrival in LOADING asks for the lamp (R94). -/
theorem exec_gate_loading (hsh : s.shutter.opened = false) (ht : s.inputs.gate.timer = some n)
    (hr : s.inputs.gate.raw = true) (hd : s.inputs.gate.debounced = false) (hst : s.seq.state = .loading)
    (hm : s.modes.current.working = true) (hcal : s.meter.calibrating = false) (hl : s.lamp.state = .off)
    (hw : s.meter.entry.warmUp ≠ 0) :
    exec (.debounceExpiry .gate) s = .next { elapse n s with
      inputs := edgeCounted n s .gate
      seq := { s.seq with state := .warming, wait := none }
      lamp := { (elapse n s).lamp with
        state := .warming, user := some .sequencer, lit := 0, warmUp := some (s.meter.entry.warmUp * 10 * Config.ms) } } := by
  rw [exec_debounceExpiry_level (i := .gate) hsh ht hr hd, edgeFlags_gate]
  show Host.Outcome.next (finish (gateRises _)) = _
  rw [gateRises_loading (by simpa [counted] using hst) (by simpa [counted] using hm) (by simpa [counted] using hcal)
    (by simpa [counted] using hl) (by simpa [counted] using hw), finish_unflagged, ← elapse_seq n s, ← elapse_meterEntry n s]
  rfl

/-- The original's arrival ends a calibration with METER set (R74). -/
theorem exec_gate_calibrating (hsh : s.shutter.opened = false) (ht : s.inputs.gate.timer = some n)
    (hr : s.inputs.gate.raw = true) (hd : s.inputs.gate.debounced = false) (hcal : s.meter.calibrating = true)
    (hch : s.modes.change ≠ .cal) (hm : s.modes.current.working = false)
    (hl : s.lamp.state = .warming ∨ s.lamp.state = .lit) (hu : s.lamp.user = some .calibration)
    (hc : 0 < cooling (elapse n s)) :
    exec (.debounceExpiry .gate) s = .next { elapse n s with
      inputs := edgeCounted n s .gate
      line := raised s.stand [.meter] (elapse n s).line
      lamp := dark (cooling (elapse n s)) (elapse n s).lamp
      meter := { meterFree (elapse n s).meter with calibrating := false }
      seq := { s.seq with slip := s.seq.slip.map unlit } } := by
  rw [exec_debounceExpiry_level (i := .gate) hsh ht hr hd, edgeFlags_gate]
  show Host.Outcome.next (finish (gateRises _)) = _
  rw [gateRises_calibrating (by simpa [counted] using hm) (by simpa [counted] using hcal) (by simpa [counted] using hch)
    (by simpa [counted] using hl) (by simpa [counted] using hu) (by exact hc), finish_undue, ← elapse_stand n s,
    ← elapse_seq n s]
  unfold counted
  generalize elapse n s = e
  rfl

/-- The door's closing starts the leader advance that waits for it (R140). -/
theorem exec_door_closes (hsh : s.shutter.opened = false) (ht : s.inputs.door.timer = some n)
    (hr : s.inputs.door.raw = false) (hd : s.inputs.door.debounced = true) (hst : s.film.state = .loading)
    (hfl : s.film.flight = none) (hre : s.inputs.rollEnd.debounced = false) (hu : undisturbed s = true) :
    exec (.debounceExpiry .door) s = .next { elapse n s with
      inputs := edgeCounted n s .door
      film := { s.film with
        state := .loading
        flight := some { kind := .leader, edge := s.stand.markEdge, left := s.stand.advanceTimeout * Config.ms } }
      line := raised s.stand (edgeFlags s.stand .door false) (elapse n s).line } := by
  rw [exec_debounceExpiry_level (i := .door) hsh ht hr hd]
  show Host.Outcome.next (finish (doorCloses _)) = _
  rw [doorCloses_starts (by simpa [counted] using hst) (by simp [counted, elapse_flight, hfl]) (by exact hre),
    finish_stands_undisturbed rfl (by exact undisturbed_counted (i := .door) hu), ← elapse_stand n s,
    ← elapse_film_at n s]
  rfl

theorem exec_gate_falls (hsh : s.shutter.opened = false) (ht : s.inputs.gate.timer = some n)
    (hr : s.inputs.gate.raw = false) (hd : s.inputs.gate.debounced = true) :
    exec (.debounceExpiry .gate) s = .next (finish (gateFalls (stands {} [] (counted n s .gate)))) := by
  rw [exec_debounceExpiry_level (i := .gate) hsh ht hr hd, edgeFlags_gate]
  rfl

theorem exec_door_opens (hsh : s.shutter.opened = false) (ht : s.inputs.door.timer = some n)
    (hr : s.inputs.door.raw = true) (hd : s.inputs.door.debounced = false) :
    exec (.debounceExpiry .door) s =
      .next (finish (doorOpens (stands {} (edgeFlags s.stand .door true) (counted n s .door)))) := by
  rw [exec_debounceExpiry_level (i := .door) hsh ht hr hd]
  rfl

/-- The last original's departure in REMOVAL: the sequencer awaits the next one (R94). -/
theorem exec_gate_removal_slip (hsh : s.shutter.opened = false) (ht : s.inputs.gate.timer = some n)
    (hr : s.inputs.gate.raw = false) (hd : s.inputs.gate.debounced = true)
    (hm : s.modes.current = .run ∨ s.modes.current = .proof) (hst : s.seq.state = .removal) (hs : s.seq.slip = some c) :
    exec (.debounceExpiry .gate) s = .next { counted n s .gate with
      line := raised s.stand [.original] (elapse n s).line, seq := { s.seq with state := .loading, wait := none } } := by
  rw [exec_gate_falls hsh ht hr hd, gateFalls_removal (by simpa [counted] using (working_iff _).2 hm)
      (by simpa [counted] using hst), if_pos (by simp [counted, hs]),
    finish_atRest (atRest_of_state (by simp) (by simp)), ← elapse_stand n s, ← elapse_seq n s]
  rfl

/-- Its departure with no slip: the sequencer is IDLE, here with no head for the arbiter (R94). -/
theorem exec_gate_removal_none (hsh : s.shutter.opened = false) (ht : s.inputs.gate.timer = some n)
    (hr : s.inputs.gate.raw = false) (hd : s.inputs.gate.debounced = true)
    (hm : s.modes.current = .run ∨ s.modes.current = .proof) (hst : s.seq.state = .removal) (hs : s.seq.slip = none)
    (hq : ∀ k : Fin 8, testedHead s k = none) :
    exec (.debounceExpiry .gate) s =
      .next { counted n s .gate with seq := { s.seq with state := .idle, wait := none } } := by
  have hq' : ∀ k : Fin 8, testedHead (counted n s .gate) k = none := fun k => by simpa [testedHead, counted] using hq k
  rw [exec_gate_falls hsh ht hr hd, gateFalls_removal (by simpa [counted] using (working_iff _).2 hm)
      (by simpa [counted] using hst), if_neg (by simp [counted, hs]),
    finish_atRest (by exact atRest_of_idle rfl hq'), raised_nil, ← elapse_seq n s]
  rfl

end Courses

/-! ### The original taken out (R96) -/

section Removal
variable {n : Nat} {s : State} {c : Current} {x : SetCtx} {i : Fin 4} {h : Nat}

/-- The states in which the original's departure is R96's removal, EXPOSING apart. -/
abbrev InHand (q : SeqState) : Prop := q = .warming ∨ q = .metering ∨ q = .setReady ∨ q = .advancing

/-- The lamp when the event has put it out for the sequencer: it was on, or it served nobody. -/
structure PutOut (u u' : State) : Prop where
  put : extinguishFor .sequencer (stands {} [] u) = stands {} [] u'
  dark : lampServes .sequencer u'.lamp = false
  film : u'.film = u.film
  modes : u'.modes = u.modes
  set : u'.seq.set = u.seq.set
  inputs : u'.inputs = u.inputs
  store : u'.store = u.store
  stand : u'.stand = u.stand

theorem putOut_on {u : State} (hl : u.lamp.state = .warming ∨ u.lamp.state = .lit) (hu : u.lamp.user = some .sequencer)
    (hw : u.lamp.waiting = none) (hc : 0 < cooling u) : PutOut u (lightsOut u) :=
  ⟨extinguishFor_on hl hu hc, lampServes_dark _ (.inr ⟨rfl, hw⟩), rfl, rfl, rfl, rfl, rfl, rfl⟩

theorem putOut_off {u : State} (hl : u.lamp.state = .off ∨ u.lamp.state = .cooling ∧ u.lamp.waiting = none) : PutOut u u :=
  ⟨extinguishFor_unserved (lampServes_dark _ hl), lampServes_dark _ hl, rfl, rfl, rfl, rfl, rfl, rfl⟩

theorem putOut_waiting {u : State} (hl : u.lamp.state = .cooling) (hw : u.lamp.waiting = some .sequencer) :
    PutOut u { u with lamp := { u.lamp with waiting := none } } :=
  ⟨extinguishFor_waiting hl hw, lampServes_dark _ (.inr ⟨hl, rfl⟩), rfl, rfl, rfl, rfl, rfl, rfl⟩

theorem putOut_counted_on (hl : s.lamp.state = .warming ∨ s.lamp.state = .lit) (hu : s.lamp.user = some .sequencer)
    (hw : s.lamp.waiting = none) (hc : 0 < cooling (counted n s .gate)) :
    PutOut (counted n s .gate) (lightsOut (counted n s .gate)) :=
  putOut_on (by simpa [counted] using hl) (by simpa [counted] using hu) (by simpa [counted] using hw) hc

theorem putOut_counted_off (h : s.lamp.state = .off ∨ s.lamp.state = .cooling ∧ s.lamp.waiting = none) :
    PutOut (counted n s .gate) (counted n s .gate) := putOut_off (by simpa [counted] using h)

theorem counted_slip (hs : s.seq.slip = some c) : (counted n s .gate).seq.slip = some c := by simpa [counted] using hs

theorem lightsOut_slip {u : State} (hs : u.seq.slip = some c) : (lightsOut u).seq.slip = some (unlit c) := by
  simp [lightsOut, hs]

variable {u' : State}

section
variable (hsh : s.shutter.opened = false) (ht : s.inputs.gate.timer = some n) (hr : s.inputs.gate.raw = false)
  (hd : s.inputs.gate.debounced = true) (hm : s.modes.current = .run ∨ s.modes.current = .proof) (hst : InHand s.seq.state)
  (hout : PutOut (counted n s .gate) u') (hs : u'.seq.slip = some c)
include hsh ht hr hd hm hst hout hs

theorem exec_gate_removal_outside (hset : s.seq.set = none) :
    exec (.debounceExpiry .gate) s = .next { awaiting c u' with line := raised s.stand [.original] u'.line } := by
  rw [exec_gate_falls hsh ht hr hd, finish_removal_outside (by simpa [counted] using (working_iff _).2 hm)
    (by simpa [counted] using hst) hout.put (by simpa [hout.set, counted] using hset) hs,
    hout.stand.trans (elapse_stand n s)]
  rfl

variable (hset : s.seq.set = some x) (hh : x.head = some h) (hi : cameraSlot s.film = some i)
  (hb : s.modes.change ≠ .boundary)
include hset hh hi hb

theorem exec_gate_removal_inside (he : ¬ SlipEnds c) :
    exec (.debounceExpiry .gate) s =
      .next { awaiting { setOver false c with copy := c.copy + 1 }
          { u' with records := headMarked i h .incomplete u'.records } with
        line := raised s.stand [.original] u'.line } := by
  rw [exec_gate_falls hsh ht hr hd, finish_removal_inside (by simpa [counted] using (working_iff _).2 hm)
    (by simpa [counted] using hst) hout.put (by simpa [hout.set, counted] using hset) hh hs
    (by rw [hout.film]; exact (findRoll_congr _ (elapse_rolls n s)).trans hi) (by simpa [hout.modes, counted] using hb) he,
    hout.stand.trans (elapse_stand n s)]
  rfl

theorem exec_gate_removal_last (he : SlipEnds c) (hq : ∀ k : Fin 8, testedHead s k = none) :
    exec (.debounceExpiry .gate) s =
      .next (slipOut [] (setEnding (setOver false c)) (setOver false c)
        { u' with records := headMarked i h .incomplete u'.records }) := by
  rw [exec_gate_falls hsh ht hr hd, finish_removal_last (by simpa [counted] using (working_iff _).2 hm)
    (by simpa [counted] using hst) hout.put (by simpa [hout.set, counted] using hset) hh hs
    (by rw [hout.film]; exact (findRoll_congr _ (elapse_rolls n s)).trans hi) (by simpa [hout.modes, counted] using hb) he
    hout.dark (by rw [hout.inputs]; exact hr)
    (by intro k; simpa [testedHead, hout.store, counted] using hq k)]

end

end Removal

/-! ### The door opening on a roll (R106, R148) -/

section Fog
variable {n : Nat} {s : State} {c : Current} {x : SetCtx} {i : Fin 4} {h : Nat} {roll : Roll}

/-- The set over, INCOMPLETE, at a door opening: its slip waits with cause ROLL (R106). -/
def waitsOnRoll (i : Fin 4) (h : Nat) (y : Current) (u : State) : State :=
  { u with
    records := headMarked i h .incomplete u.records
    seq := { state := .setReady, wait := some .roll, set := none, slip := some y } }

theorem enterWait_nextCopy_unlit {d : Due} {fs : List Flag} {u : State} (hu : u.lamp.user ≠ some .sequencer) :
    enterWait .roll (stands d fs (nextCopy (setOver false c) (setEnded false i h c u))) =
      stands d fs (waitsOnRoll i h { setOver false c with copy := c.copy + 1 } u) := by
  rw [enterWait_unlit _ (.inl (by exact hu))]
  rfl

theorem enterWait_nextCopy_lit {d : Due} {fs : List Flag} {u : State} (hl : u.lamp.state = .lit)
    (hu : u.lamp.user = some .sequencer) (hc : 0 < cooling u) :
    enterWait .roll (stands d fs (nextCopy (setOver false c) (setEnded false i h c u))) =
      stands d fs (waitsOnRoll i h (unlit { setOver false c with copy := c.copy + 1 }) (darkened u)) := by
  rw [enterWait_lit _ (.inr (by exact hl)) (by exact hu) (by exact hc)]
  rfl

variable (hsh : s.shutter.opened = false) (ht : s.inputs.door.timer = some n) (hr : s.inputs.door.raw = true)
  (hd : s.inputs.door.debounced = false) (hno : s.film.state ≠ .noRoll) (hfd : s.film.state ≠ .faultDoor)
  (hld : s.film.state ≠ .loading) (hi : cameraSlot s.film = some i) (hroll : s.film.rolls[i] = some roll)
include hsh ht hr hd hno hfd hld hi hroll

theorem exec_door_fogs :
    exec (.debounceExpiry .door) s =
      .next (finish (sequencerDoor (stands { wake := true } [.door] (fogged i roll (counted n s .door))))) := by
  have hfogs := doorOpens_fogs (d := {}) (fs := edgeFlags s.stand .door true) (u := counted n s .door)
    (by simpa [counted] using hno) (by simpa [counted] using hfd) (by simpa [counted] using hld)
    ((findRoll_congr _ (elapse_rolls n s)).trans hi)
    (by simpa [counted] using hroll)
  rw [exec_door_opens hsh ht hr hd, hfogs, stands_edgeFlags _ _ (edgeFlags_door _ _)]

theorem exec_door_fogs_undisturbed (hset : s.seq.set = none) (hu : undisturbed s = true) :
    exec (.debounceExpiry .door) s = .next { fogged i roll (counted n s .door) with
      line := raised s.stand [.door] (elapse n s).line } := by
  rw [exec_door_fogs hsh ht hr hd hno hfd hld hi hroll, sequencerDoor_outside (by simpa [fogged, counted] using hset),
    finish_stands_undisturbed rfl (by exact undisturbed_counted (i := .door) hu), ← elapse_stand n s]
  rfl

/-- A set start that waits outside a set then shows ROLL (R106). -/
theorem exec_door_fogs_waiting (hset : s.seq.set = none) (hst : s.seq.state = .setReady) (hs : s.seq.slip = some c)
    (hrun : s.modes.current = .run) (hlu : s.lamp.user ≠ some .sequencer) :
    exec (.debounceExpiry .door) s = .next { fogged i roll (counted n s .door) with
      line := raised s.stand [.door] (elapse n s).line, seq := { s.seq with state := .setReady, wait := some .roll } } := by
  have hwait (told) := evaluateWait_faultDoor (told := told) (d := {}) (fs := [.door]) (c := c)
    (u := fogged i roll (counted n s .door)) (by simpa [fogged, counted] using hst) (by simpa [fogged, counted] using hset)
    (by simpa [fogged, counted] using hs) (by simpa [fogged, counted] using hrun) rfl
  have hunlit : (fogged i roll (counted n s .door)).lamp.user ≠ some .sequencer := by simpa [fogged, counted] using hlu
  rw [exec_door_fogs hsh ht hr hd hno hfd hld hi hroll, sequencerDoor_outside (by simpa [fogged, counted] using hset),
    finish_evaluates rfl ((hwait _).trans (enterWait_unlit _ (.inl hunlit))) rfl (by simp), ← elapse_stand n s,
    ← elapse_seq n s]
  rfl

variable (hset : s.seq.set = some x) (hh : x.head = some h) (hs : s.seq.slip = some c) (he : ¬ SlipEnds c)
  (hrun : s.modes.current = .run) (hb : s.modes.change ≠ .boundary)
include hset hh hs he hrun hb

/-- A set that a door opening ends: what remains is the wait of its slip, evaluated in FAULT(DOOR) (R106, R107). -/
theorem exec_door_fogs_inside {d' : Due} {fs' : List Flag} {u' : State} (hg : d'.go = false) (hidle : u'.seq.state ≠ .idle)
    (hwait : enterWait .roll (stands {} [.door] (nextCopy (setOver false c)
      (setEnded false i h c (fogged i roll (counted n s .door))))) = stands d' fs' u') :
    exec (.debounceExpiry .door) s = .next { u' with line := raised u'.stand fs' u'.line } := by
  have hi' : cameraSlot (fogged i roll (counted n s .door)).film = some i :=
    cameraSlot_fogged ((findRoll_congr _ (elapse_rolls n s)).trans hi) (by simpa [counted] using hroll)
  have hev (told) := evaluateWait_faultDoor (told := told) (d := {}) (fs := [.door])
    (c := { setOver false c with copy := c.copy + 1 })
    (u := nextCopy (setOver false c) (setEnded false i h c (fogged i roll (counted n s .door))))
    rfl rfl rfl (by simpa [nextCopy, setEnded, fogged, counted] using hrun) rfl
  rw [exec_door_fogs hsh ht hr hd hno hfd hld hi hroll,
    sequencerDoor_inside (by simpa [fogged, counted] using hsh) (by simpa [fogged, counted] using hset) hh
      (by simpa [fogged, counted] using hs) hi' (by simpa [fogged, counted] using hb) he,
    finish_evaluates rfl ((hev _).trans hwait) hg hidle]

theorem exec_door_fogs_inside_unlit (hlu : s.lamp.user ≠ some .sequencer) :
    exec (.debounceExpiry .door) s =
      .next { waitsOnRoll i h { setOver false c with copy := c.copy + 1 } (fogged i roll (counted n s .door)) with
        line := raised s.stand [.door] (elapse n s).line } := by
  have hunlit : (fogged i roll (counted n s .door)).lamp.user ≠ some .sequencer := by simpa [fogged, counted] using hlu
  rw [exec_door_fogs_inside hsh ht hr hd hno hfd hld hi hroll hset hh hs he hrun hb rfl (by simp [waitsOnRoll])
    (enterWait_nextCopy_unlit hunlit), ← elapse_stand n s]
  unfold counted
  generalize elapse n s = e
  rfl

theorem exec_door_fogs_inside_lit (hl : s.lamp.state = .lit) (hlu : s.lamp.user = some .sequencer)
    (hc : 0 < cooling (counted n s .door)) :
    exec (.debounceExpiry .door) s =
      .next { waitsOnRoll i h (unlit { setOver false c with copy := c.copy + 1 })
          (darkened (fogged i roll (counted n s .door))) with
        line := raised s.stand [.door] (elapse n s).line } := by
  have hlit : (fogged i roll (counted n s .door)).lamp.state = .lit := by simpa [fogged, counted] using hl
  have huser : (fogged i roll (counted n s .door)).lamp.user = some .sequencer := by simpa [fogged, counted] using hlu
  have hcool : cooling (fogged i roll (counted n s .door)) = cooling (counted n s .door) := cooling_congr rfl rfl
  rw [exec_door_fogs_inside hsh ht hr hd hno hfd hld hi hroll hset hh hs he hrun hb rfl (by simp [waitsOnRoll])
    (enterWait_nextCopy_lit hlit huser (by rw [hcool]; exact hc)), ← elapse_stand n s]
  unfold counted
  generalize elapse n s = e
  rfl

end Fog

/-- Settles O43: the edge is counted, its block acts on it, and the event ends in a state at rest or evaluates one wait. -/
theorem edgesReachTheirBlocks : Obligations.EdgesReachTheirBlocks := by
  refine ⟨?closed, ?openPause, ?calibration, ?gateFall, ?doorRise⟩
  case closed =>
    intro s n hsh
    refine ⟨fun a ht hr ha hk hae hse hu => exec_mark_leader hsh ht hr ha hk hae hse hu,
      fun a ht hr hd ha hn hu => exec_rollEnd_stops hsh ht hr hd ha hn hu,
      fun ht hr => ⟨fun hb => ?_, fun hb hrun hset hst => ?_⟩,
      fun ht hr hd hst hm hcal hl hw => exec_gate_loading hsh ht hr hd hst ((working_iff _).2 hm) hcal hl hw,
      fun ht hr hd hst hfl hre hu => by rw [exec_door_closes hsh ht hr hd hst hfl hre hu, ← hst]; rfl⟩
    · rw [hb] at hr
      rw [exec_pause_falls hsh ht hb (by simpa using hr.symm), hb]
      rfl
    · rw [hb] at hr
      rw [exec_pause_pends (closeUnfit_stands ((elapse_opened n s).trans hsh)) ht hb (by simpa using hr.symm) hrun hset hst, hb]
      rfl
  case openPause =>
    intro s n hopen hl hrun hfilm hdoor hgate hst hset ht hr hd
    have hfit : closeUnfit (stands {} [] (counted n s .pause)) = stands {} [] (counted n s .pause) := by
      have : exposureFit (stands {} [] (counted n s .pause)).toState = true := by
        simp only [exposureFit, stands_toState, counted, elapse_lampState, elapse_modes, elapse_filmState, hl, hrun, hfilm]
        exact (by simp [hdoor, hgate] : (!s.inputs.door.debounced && s.inputs.gate.debounced) = true)
      rw [closeUnfit, if_pos this]
    rw [exec_pause_pends hfit ht hr hd hrun hset (.inl hst)]
    rfl
  case calibration =>
    intro s n hsh ht hr hd hcal hch hm hl hu
    exact fun hc => exec_gate_calibrating hsh ht hr hd hcal hch ((not_working_iff _).2 hm) hl hu hc
  case gateFall =>
    intro s n hsh ht hr hd hm hb
    refine ⟨fun c hst hs => exec_gate_removal_slip hsh ht hr hd hm hst hs,
      fun hst hs hq => exec_gate_removal_none hsh ht hr hd hm hst hs hq, fun c hst hset hs => ?outside,
      fun c x i h hst hset hh hs hi => ⟨fun hp hcopy => ?inside, fun he hq => ?last⟩⟩
    case outside =>
      have hst' : InHand s.seq.state := by rcases hst with h | h | h <;> simp [InHand, h]
      have hs' := counted_slip (n := n) hs
      refine ⟨fun ⟨hl, hu, hlw⟩ hc => ?_, fun hl hlw => ?_, fun hoff => ?_⟩
      · rw [exec_gate_removal_outside hsh ht hr hd hm hst' (putOut_counted_on hl hu hlw hc) (lightsOut_slip hs') hset]
        rfl
      · rw [exec_gate_removal_outside hsh ht hr hd hm hst' (putOut_waiting (by simpa [counted] using hl)
          (by simpa [counted] using hlw)) hs' hset]
        rfl
      · rw [exec_gate_removal_outside hsh ht hr hd hm hst' (putOut_counted_off hoff) hs' hset]
        rfl
    case inside =>
      have he : ¬ SlipEnds c := by simp [SlipEnds, hp, hcopy]
      have hs' := counted_slip (n := n) hs
      refine ⟨fun ⟨hl, hu, hlw⟩ hc => ?_, fun hoff => ?_⟩
      · rw [exec_gate_removal_inside hsh ht hr hd hm hst (putOut_counted_on hl hu hlw hc) (lightsOut_slip hs') hset hh hi
          hb he, ← elapse_records n s]
        rfl
      · rw [exec_gate_removal_inside hsh ht hr hd hm hst (putOut_counted_off hoff) hs' hset hh hi hb he, ← elapse_records n s]
        rfl
    case last =>
      have hs' := counted_slip (n := n) hs
      refine ⟨fun ⟨hl, hu, hlw⟩ hc => ?_, fun hoff => ?_⟩
      · rw [exec_gate_removal_last hsh ht hr hd hm hst (putOut_counted_on hl hu hlw hc) (lightsOut_slip hs') hset hh hi
          hb he hq, ← elapse_records n s]
        rfl
      · rw [exec_gate_removal_last hsh ht hr hd hm hst (putOut_counted_off hoff) hs' hset hh hi hb he hq, ← elapse_records n s]
        rfl
  case doorRise =>
    intro s n hsh ht hr hd
    refine ⟨fun hst => ?_, fun hst hfl hu => ?_, fun i roll hno hfd hld hi hroll => ⟨fun hset hu => ?_,
      fun c hset hst hs hrun hlu => ?_, fun c x h hst hset hh hs hp hcopy hrun hb => ?_⟩⟩
    · rw [exec_door_opens hsh ht hr hd, doorOpens_stays (by simpa [counted, elapse_flight] using hst), finish_undue,
        ← elapse_stand n s]
      rfl
    · rw [exec_door_opens hsh ht hr hd, doorOpens_withdraws (by simpa [counted] using hst)
          (by simpa [counted, elapse_flight] using hfl),
        finish_stands_undisturbed rfl (by exact undisturbed_counted (i := .door) hu), ← elapse_stand n s]
      rfl
    · exact exec_door_fogs_undisturbed hsh ht hr hd hno hfd hld hi hroll hset hu
    · rw [exec_door_fogs_waiting hsh ht hr hd hno hfd hld hi hroll hset hst hs hrun hlu, ← hst]
      rfl
    · have he : ¬ SlipEnds c := by simp [SlipEnds, hp, hcopy]
      refine ⟨fun hlu => ?_, fun hl hlu hc => ?_⟩
      · rw [exec_door_fogs_inside_unlit hsh ht hr hd hno hfd hld hi hroll hset hh hs he hrun hb hlu]
        unfold counted
        generalize elapse n s = e
        rfl
      · rw [exec_door_fogs_inside_lit hsh ht hr hd hno hfd hld hi hroll hset hh hs he hrun hb hl hlu hc]
        unfold counted
        generalize elapse n s = e
        rfl

end Sys2Proof.Machine
end

section
/-! Calibrations and the ends of a metering's phases (O23, O24, O25, O27). -/

namespace Sys2Proof.Machine

/-! ### CB (R70, R118) -/

theorem exec_cb {s : State} (fields : List Text) (htx : s.line.tx.length < 16) :
    exec (.cb fields) s = .next (finish (cardCb fields s.begin)) := takeCard_free _ _ htx

/-- A card's event that only sends a reply ends as it stands. -/
theorem finish_replyNo (kind : Text) (key : List Text) (r : Reason) (s : State) :
    finish (replyNo kind key r s.begin) = sends (noCard kind key r) s := finish_unmarked _ rfl rfl rfl rfl rfl

theorem cardCb_field {fields : List Text} {e : Event} (h : fields ≠ []) :
    cardCb fields e = replyNo (txt "CB") [] .field e := by simp [cardCb, h]

theorem cardCb_mode {e : Event} (h : e.modes.current ≠ .setup) : cardCb [] e = replyNo (txt "CB") [] .mode e := by
  simp [cardCb, h]

theorem cardCb_state {e : Event} (hm : e.modes.current = .setup)
    (h : e.meter.calibrating = true ∨ e.meter.phase ≠ .idle ∨ e.inputs.gate.debounced = true) :
    cardCb [] e = replyNo (txt "CB") [] .state e := by simp [cardCb, hm, gateActive, h]

/-- Past MODE and STATE the lamp decides: BUSY while it cools, and otherwise it is asked for (R70). -/
theorem cardCb_judged {e : Event} (hm : e.modes.current = .setup) (hc : e.meter.calibrating = false)
    (hp : e.meter.phase = .idle) (hg : e.inputs.gate.debounced = false) :
    cardCb [] e =
      if e.lamp.state = .cooling then replyNo (txt "CB") [] .busy e
      else lightLamp .calibration (replyOk (txt "CB") [] (e.setMeter { e.meter with calibrating := true })) := by
  simp [cardCb, hm, gateActive, hc, hp, hg]

/-- Settles O23: the refusals stand in the card's own order, and an accepted card asks for the lamp. -/
theorem calibrationAsked : Obligations.CalibrationAsked := by
  intro s htx
  refine ⟨fun fields h => ?_, fun h => ?_, fun hm => ⟨fun h => ?_, fun hc hp hg => ⟨fun hl => ?_, fun hl hw => ?_⟩⟩⟩
  · rw [exec_cb _ htx, cardCb_field h, finish_replyNo]
  · rw [exec_cb _ htx, cardCb_mode (by exact h), finish_replyNo]
  · rw [exec_cb _ htx, cardCb_state (by exact hm) (by exact h), finish_replyNo]
  · rw [exec_cb _ htx, cardCb_judged (by exact hm) (by exact hc) (by exact hp) (by exact hg), if_pos (by exact hl),
      finish_replyNo]
  · rw [exec_cb _ htx, cardCb_judged (by exact hm) (by exact hc) (by exact hp) (by exact hg),
      if_neg (by simp [hl]), lightLamp_off _ _ (by exact hl) (by exact hw), finish_unmarked _ rfl rfl rfl rfl rfl]
    rfl

/-! ### Probe pulses and the end of the reference phase (R59, R63, R66) -/

/-- The probe whose pulses count in the phase at hand (R59). -/
def CountsIn (ph : MeterPhase) (p : Probe) : Prop := ph = .reference ∧ p = .lamp ∨ ph = .gate ∧ p = .gate

theorem countPulse_idle {p : Probe} {e : Event} (h : ¬ CountsIn e.meter.phase p) : countPulse p e = e := by
  unfold countPulse
  split
  · next hph => exact absurd (.inl ⟨hph, rfl⟩) h
  · next hph => exact absurd (.inr ⟨hph, rfl⟩) h
  · rfl

/-- Below its top a pulse in its own phase counts (R59). -/
theorem countPulse_counts {p : Probe} {e : Event} (h : CountsIn e.meter.phase p) (hc : e.meter.count < 16777215) :
    countPulse p e = e.setMeter { e.meter with count := e.meter.count + 1 } := by
  have hbelow : e.meter.count + 1 < Config.countSpan := Nat.succ_lt_succ hc
  rcases h with ⟨hph, rfl⟩ | ⟨hph, rfl⟩
  · simp [countPulse, hph, hbelow]
  · simp [countPulse, hph, hbelow]

/-- At the counter's top the pulse ends the reference phase, or overruns the gate phase (R63, R66). -/
theorem countPulse_top {p : Probe} {e : Event} (h : CountsIn e.meter.phase p) (hc : e.meter.count = 16777215) :
    countPulse p e = if p = .lamp then referenceEnds e else gateOverruns e := by
  rcases h with ⟨hph, rfl⟩ | ⟨hph, rfl⟩
  · simp [countPulse, hph, hc]
  · simp [countPulse, hph, hc]

theorem inPhase_same {ph : MeterPhase} {f : Event → Event} {e : Event} (h : e.meter.phase = ph) : inPhase ph f e = f e :=
  if_pos h

theorem inPhase_other {ph : MeterPhase} {f : Event → Event} {e : Event} (h : e.meter.phase ≠ ph) : inPhase ph f e = e :=
  if_neg h

/-- The counter's top put where it stands already changes nothing. -/
theorem counterAtTop_same {s : State} (h : s.meter.count = 16777215) : counterAtTop s.begin = s.begin := by
  have htop : { s.meter with count := Config.countSpan - 1 } = s.meter := by
    rw [show Config.countSpan - 1 = s.meter.count from h.symm]
  simp only [counterAtTop, begin_toState, htop]
  rfl

/-- Settles O24: by the cases of the phase and the probe, and of the counter. -/
theorem probePulseCounts : Obligations.ProbePulseCounts := by
  refine ⟨fun s p => ?pulse, fun s => ⟨fun hph => ?_, fun hph ht => ?_⟩⟩
  case pulse =>
    have hexec : exec (.probePulse p) s = .next (finish (countPulse p s.begin)) := rfl
    refine ⟨fun h => ?_, fun h hc => ?_, fun h hc => ?_⟩
    · rw [hexec, countPulse_idle (e := s.begin) h, begin_stands, finish_unflagged]
    · rw [hexec, countPulse_counts (e := s.begin) h hc, begin_stands, stands_setMeter, finish_unflagged]
      rfl
    · rw [hexec, countPulse_top (e := s.begin) h hc]
      rcases h with ⟨hph, rfl⟩ | ⟨hph, rfl⟩
      · show _ = Host.Outcome.next (finish (inPhase .reference referenceEnds s.begin))
        rw [inPhase_same (by exact hph), if_pos rfl]
      · show _ = Host.Outcome.next (finish (inPhase .gate (fun e => gateOverruns (counterAtTop e)) s.begin))
        rw [inPhase_same (by exact hph), counterAtTop_same hc, if_neg (by simp)]
  · show Host.Outcome.next (finish (inPhase .reference referenceEnds s.begin)) = _
    rw [inPhase_other (by exact hph), begin_stands, finish_unflagged]
  · show Host.Outcome.next (finish (inPhase .reference referenceEnds s.begin)) = _
    rw [inPhase_same (by exact hph), referenceEnds, if_neg (by simpa using ht), begin_stands, stands_setMeter, finish_unflagged]
    rfl

/-! ### The ends of a calibration's metering (R64 to R66, R72, R73) -/

section Calibration
variable {d : Due} {fs : List Flag} {u : State} {j : MeterJob}

/-- A calibration's metering that fails ends the calibration, with no change pending at CAL (R73). -/
theorem meteringFails_calibration (hj : u.meter.job = some j) (hu : j.user = .calibration) (hl : u.lamp.state = .lit)
    (hlu : u.lamp.user = some .calibration) (hc : 0 < cooling u) (hch : u.modes.change ≠ .cal) :
    meteringFails (stands d fs u) = stands d fs (calibrationOver u) := by
  simp only [meteringFails, stands_toState, hj, hu, meterStops, stands_setMeter]
  rw [calibrationEnds_on (by exact .inr hl) (by exact hlu) (by exact hc), if_neg (by exact hch)]
  rfl

/-- A calibration's result is stored with CAL, or METER is set (R72). -/
theorem storeCalibration_stands (g r : Nat) :
    storeCalibration g r (stands d fs u) =
      let c := (2 * 16384 * g + r) / (2 * r)
      let stored := decide (8192 ≤ c ∧ c ≤ 65535)
      stands d (fs ++ [if stored then .cal else .meter])
        { u with meter := { u.meter with entry := if stored then { u.meter.entry with cal := c } else u.meter.entry } } := by
  unfold storeCalibration
  by_cases h : 8192 ≤ (2 * 16384 * g + r) / (2 * r) ∧ (2 * 16384 * g + r) / (2 * r) ≤ 65535
  · simp [h]
  · simp [h]

end Calibration

theorem exec_gatePhaseEnd {s : State} (h : s.meter.phase = .gate) :
    exec .gatePhaseEnd s = .next (finish (meteringEnds (stands {} [] (elapse (untilGateEnd s) s)))) := by
  show Host.Outcome.next (finish (inPhase .gate meteringEnds (elapse (untilGateEnd s) s).begin)) = _
  rw [inPhase_same (by exact (elapse_meterPhase _ _).trans h), begin_stands]

/-- Settles O25: each overrun sets its flag and fails the metering, which ends the calibration. -/
theorem calibrationOverruns : Obligations.CalibrationOverruns := by
  intro s j hj hu hl hlu hch _
  refine ⟨fun hph hc => ?_, fun hph hc => ?_⟩
  · show Host.Outcome.next (finish (inPhase .reference referenceOverruns (elapse (untilOverrun s) s).begin)) = _
    rw [inPhase_same (by exact (elapse_meterPhase _ _).trans hph), referenceOverruns, begin_stands, stands_setFlag,
      meteringFails_calibration (j := j) (by simpa using hj) hu (by simpa using hl) (by simpa using hlu) hc
        (by simpa using hch), finish_undue, ← elapse_stand (untilOverrun s) s]
    rfl
  · show Host.Outcome.next (finish (inPhase .gate (fun e => gateOverruns (counterAtTop e)) s.begin)) = _
    rw [inPhase_same (by exact hph), gateOverruns, counterAtTop, begin_stands, stands_toState, stands_setMeter,
      stands_setFlag, meteringFails_calibration (j := j) (by exact hj) hu (by exact hl) (by exact hlu) (by exact hc)
        (by exact hch), finish_undue]
    rfl

/-- The nearest whole number to `16384 g / r`, a half upward, by the remainder of its division (R72). -/
theorem calibration_nearest {g r : Nat} (hr : 0 < r) :
    2 * r * ((2 * 16384 * g + r) / (2 * r)) ≤ 2 * 16384 * g + r
      ∧ 2 * 16384 * g + r < 2 * r * ((2 * 16384 * g + r) / (2 * r) + 1) :=
  ⟨Nat.mul_div_le _ _, Nat.lt_mul_div_succ _ (by omega)⟩

/-- Settles O27: the result is stored or refused, and then the calibration ends. -/
theorem calibrationStores : Obligations.CalibrationStores := by
  intro s j hph hj hu hl hlu hch _
  refine fun hc => ⟨fun hr => calibration_nearest (by omega), ?_⟩
  have hj' : (elapse (untilGateEnd s) s).meter.job = some j := by simpa using hj
  rw [exec_gatePhaseEnd hph]
  simp only [meteringEnds, stands_toState, hj', hu, meterStops, stands_setMeter, storeCalibration_stands]
  rw [calibrationEnds_on (by exact .inr ((elapse_lampState _ _).trans hl)) (by exact (elapse_lampUser _ _).trans hlu)
      (by exact hc), if_neg (by exact fun h => hch ((congrArg _ (elapse_modes _ _)).symm.trans h)), finish_undue,
    ← elapse_stand (untilGateEnd s) s, ← elapse_meterEntry (untilGateEnd s) s, ← elapse_meterCount (untilGateEnd s) s]
  rfl

end Sys2Proof.Machine
end

section
/-! What the lighting of a lamp brings: a metering, a set start, a step, a proof; one equation for each course, in the normal
form of events. -/

namespace Sys2Proof.Machine

/-! ### The transmit queue and the shutter in normal form -/

/-- Flags do not read the transmit queue or the waiting PF card. -/
theorem flagged_transmit (st : StandEntry) (fs : List Flag) (x : LineState) (t : List Card) (p : Option Card) :
    flagged st fs { x with tx := t, pfWaiting := p } = { flagged st fs x with tx := t, pfWaiting := p } := by
  simp only [flagged, foldl_flagLine]
  by_cases h : newEnabled st.enables fs x.flags = true ∧ x.report = .none
  · simp [h]
  · rw [if_neg h, if_neg h]

theorem flagged_tx (st : StandEntry) (fs : List Flag) (x : LineState) : (flagged st fs x).tx = x.tx := by
  simp only [flagged, foldl_flagLine]; split <;> rfl

section Updates
variable (d : Due) (fs : List Flag) (u : State)

theorem stands_tx : (stands d fs u).line.tx = u.line.tx := by rw [stands_toState]; exact flagged_tx _ _ _

theorem stands_setTransmit (t : List Card) (p : Option Card) :
    (stands d fs u).setLine { (stands d fs u).line with tx := t, pfWaiting := p } =
      stands d fs { u with line := { u.line with tx := t, pfWaiting := p } } := by
  simp only [stands_eq, flagged_transmit]
  rfl

@[simp] theorem stands_setShutter (x : Shutter) : (stands d fs u).setShutter x = stands d fs { u with shutter := x } := by
  simp only [stands_eq]; rfl

end Updates

/-! ### A lighting that counts as metered (R95) -/

/-- The lamp LIT, its warm-up over (R119). -/
def nowLit (u : State) : State := { u with lamp := { u.lamp with state := .lit, warmUp := none } }

/-- A metering begun for a user, with R, c and the time base as they stand (R62, R63). -/
def meteringBegun (w : User) (m : Meter) : Meter :=
  { m with
    count := 16777216 - m.entry.refCount, timeBase := 0, phase := .reference
    job := some { user := w, refCount := m.entry.refCount, cal := m.entry.cal, base := m.entry.base } }

/-- The current slip with its lighting metered by a factor (R95). -/
def lighted (f : Factor) (c : Current) : Current := { c with factor := f, metered := true, fresh := true }

/-- The sequencer in SET_READY with a metered lighting, on its way into a set start or a proof (R95). -/
def setReadyWith (c : Current) (u : State) : State :=
  { u with seq := { state := .setReady, wait := none, slip := some c, set := none } }

/-- The same inside a set, whose step goes on (R95, R100). -/
def setReadyInside (c : Current) (x : SetCtx) (u : State) : State :=
  { u with seq := { state := .setReady, wait := none, slip := some c, set := some x } }

section Lighting
variable {d : Due} {fs : List Flag} {u : State} {c : Current} {w : User} {y : SetCtx}

theorem beginMetering_idle (h : u.meter.phase = .idle) :
    beginMetering w (stands d fs u) = stands d fs { u with meter := meteringBegun w u.meter } := by
  rw [beginMetering, if_pos (by simpa using h), stands_toState, stands_setMeter]
  rfl

theorem lampLit_calibration (h : u.lamp.user = some .calibration) :
    lampLit (stands d fs u) = beginMetering .calibration (stands d fs (nowLit u)) := by
  simp [lampLit, h, nowLit]

theorem lampLit_sequencer (h : u.lamp.user = some .sequencer) :
    lampLit (stands d fs u) = sequencerLit (stands d fs (nowLit u)) := by
  simp [lampLit, h, nowLit]

/-- A slip without a density is metered (R95). -/
theorem sequencerLit_meters (hst : u.seq.state = .warming) (hs : u.seq.slip = some c) (hd : c.slip.density = none) :
    sequencerLit (stands d fs u) =
      beginMetering .sequencer (stands d fs { u with seq := { u.seq with state := .metering } }) := by
  simp [sequencerLit, hst, hs, hd]

/-- A slip with a density is not: its lighting counts as metered with the factor it has (R95). -/
theorem sequencerLit_density {n : Nat} (hst : u.seq.state = .warming) (hs : u.seq.slip = some c)
    (hd : c.slip.density = some n) : sequencerLit (stands d fs u) = lightingMetered c.factor (stands d fs u) := by
  simp [sequencerLit, hst, hs, hd]

theorem lightingMetered_outside (f : Factor) (hs : u.seq.slip = some c) (hset : u.seq.set = none) :
    lightingMetered f (stands d fs u) = stands { d with go := true } fs (setReadyWith (lighted f c) u) := by
  simp [lightingMetered, changeCurrent, hs, hset, setReadyWith, lighted]

theorem lightingMetered_inside (f : Factor) (hs : u.seq.slip = some c) (hset : u.seq.set = some y) :
    lightingMetered f (stands d fs u) =
      { stands d fs (setReadyInside (lighted f c) (y.retimed f) u) with step := true } := by
  simp [lightingMetered, changeCurrent, hs, hset, setReadyInside, lighted]

theorem lightingReady_metered (hl : u.lamp.state = .lit) (hs : u.seq.slip = some c) (hm : c.metered = true) :
    lightingReady u = true := by simp [lightingReady, hl, hs, hm]

end Lighting

/-! ### A step's exposure (R100 to R102, R126) -/

theorem cameraFrame_eq {f : Film} {i : Fin 4} {roll : Roll} (hi : cameraSlot f = some i) (hr : f.rolls[i] = some roll) :
    cameraFrame f = some (i, roll) := by
  rw [cameraFrame, hi, Option.bind_some, hr]
  rfl

/-- A record is created within the roll's capacity, with a place in the frame map and none yet for its frame (R155). -/
theorem creationRefused_eq_false {r : Record} {capacity : Nat} {rs : List Record} (hn : 1 ≤ r.frame)
    (hc : r.frame ≤ capacity) (hl : rs.length < 2048) (ha : ∀ y ∈ rs, ¬ (y.slot = r.slot ∧ y.frame = r.frame)) :
    creationRefused r capacity rs = false := by
  have hat : recordAt r.slot r.frame rs = none := by
    rw [recordAt, List.find?_eq_none]
    intro y hy
    simpa [isAt] using ha y hy
  have hfree : ¬ Config.mapPlaces ≤ rs.length := Nat.not_le.2 hl
  simp [creationRefused, hat, hfree]
  omega

/-- A step's exposure begun on a frame: its record, the set head, the shutter OPEN (R102, R126). -/
def exposureBegun (i : Fin 4) (frame : Nat) (c : Current) (x : SetCtx) (t : StepTime) (u : State) : State :=
  { u with
    records := insertRecord (stepRecord i frame c x t) u.records
    shutter := { opened := true, timer := some (t.time * Config.tenth) }
    seq := { state := .exposing, wait := none, slip := some { c with fresh := false }
             set := some { x with head := some (x.head.getD frame) } } }

theorem fit_of_fitToOpen {u : State} (h : FitToOpen u) (hl : u.lamp.state = .lit) (hf : u.film.state = .ready) :
    exposureFit u = true := by
  simp [exposureFit, hl, hf, h.run, h.door, h.gate]

section Exposure
variable {d : Due} {fs : List Flag} {u : State} {c : Current} {x : SetCtx} {i : Fin 4} {roll : Roll} {t : StepTime}

theorem createRecord_stands (r : Record) :
    createRecord r (stands d fs u) =
      stands { d with wake := true } (fs ++ clampFlags r.marks) { u with records := insertRecord r u.records } := by
  simp only [createRecord, stands_toState, stands_setRecords, stands_woken, stands_setFlagIf]
  rfl

theorem beginExposure_begins (hi : cameraSlot u.film = some i) (hr : u.film.rolls[i] = some roll)
    (hs : u.seq.slip = some c) (hset : u.seq.set = some x) (hfit : exposureFit u = true)
    (hsh : u.shutter.opened = false)
    (hrec : creationRefused (stepRecord i roll.next c x t) roll.capacity u.records = false) :
    beginExposure t (stands d fs u) =
      stands { d with wake := true } (fs ++ clampFlags t.marks) (exposureBegun i roll.next c x t u) := by
  have hframe : cameraFrame u.film = some (i, roll) := cameraFrame_eq hi hr
  have hopens : ∀ v : State, exposureFit v = true → v.shutter.opened = false → ∀ (d : Due) (fs : List Flag),
      requestExposure t.time (stands d fs v) =
        stands d fs { v with shutter := { opened := true, timer := some (t.time * Config.tenth) } } := by
    intro v hv hvs d fs
    rw [requestExposure, if_pos ⟨by simpa using hvs, by rw [stands_toState]; exact hv⟩, stands_setShutter]
  simp only [beginExposure, stands_toState, hframe, hs, hset, hrec, Bool.false_eq_true, if_false, createRecord_stands,
    stands_setSeq]
  rw [hopens _ (by exact hfit) (by exact hsh)]
  rfl

/-- A step within the remaining allowance is exposed (R101). -/
theorem compareStep_within (hs : u.seq.slip = some c) (hset : u.seq.set = some x)
    (ht : (presentTime x).time ≤ allowance u) :
    compareStep (stands d fs u) = beginExposure (presentTime x) (stands d fs u) := by
  have ht' : (presentTime x).time ≤ allowance (stands d fs u).toState := by rw [stands_toState]; exact ht
  rw [stands_toState] at ht'
  simp only [compareStep, stands_toState, hs, hset, if_pos ht']

/-- A step begun with its checks passing and the lighting metered goes on at once (R100). -/
theorem beginStep_goesOn (hf : u.film.state = .ready) (hi : cameraSlot u.film = some i) (hr : u.film.rolls[i] = some roll)
    (hn : roll.next ≤ roll.capacity) (hlen : u.records.length < 2048) (hl : u.lamp.state = .lit)
    (hs : u.seq.slip = some c) (hm : c.metered = true) :
    beginStep (stands d fs u) =
      compareStep (stands d fs { u with seq := { u.seq with state := .setReady, wait := none } }) := by
  have hframe : cameraFrame u.film = some (i, roll) := cameraFrame_eq hi hr
  have hfree : freeRecords u.records ≠ 0 := by unfold freeRecords Config.mapPlaces; omega
  have hready : lightingReady (stands d fs { u with seq := { u.seq with state := .setReady, wait := none } }).toState = true :=
    lightingReady_metered (c := c) (by simpa using hl) (by simpa using hs) hm
  simp only [beginStep, seqTo, stands_setSeq, stands_toState, hf, hframe, if_neg (Nat.not_lt.2 hn), if_neg hfree,
    hl] at hready ⊢
  rw [if_neg (by simp), if_pos hready]

end Exposure

/-! ### A set start (R97, R99) -/

section SetStart
variable {d : Due} {fs : List Flag} {u : State} {c : Current} {i : Fin 4} {roll : Roll}

/-- With no roll to expose, or one awaited, a set start waits with cause ROLL while the lamp is not COOLING (R97, R106). -/
theorem evaluateSetStart_rollWait (hl : u.lamp.state ≠ .cooling) (h : cameraSlot u.film = none ∨ awaitsRoll u.film = true) :
    evaluateSetStart c (stands d fs u) = enterWait .roll (stands d fs u) := by
  simp only [evaluateSetStart, stands_toState, rollAwaited_eq, if_neg hl]
  rcases h with h | h
  · simp [cameraFrame, h]
  · simp [h]

/-- The ceiling check of the charge unit is that of the statements (R191). -/
theorem ceilingPasses_eq (u : State) (a : Slip) :
    ceilingPasses a.account (u.tables.pattern[a.pattern]).length u.money = ceilingFits u a :=
  (Bool.decide_or _ _).symm

/-- With every check of R97 passing and the lighting metered, the set begins (R99). -/
theorem evaluateSetStart_begins (h : SetMayStart u c.slip i roll) (hl : u.lamp.state = .lit) (hs : u.seq.slip = some c)
    (hm : c.metered = true) : evaluateSetStart c (stands d fs u) = beginSet (stands d fs u) := by
  obtain ⟨hready, ⟨hi, hr⟩, hstock, hframes, hmap, hceiling⟩ := h
  have hframe : cameraFrame u.film = some (i, roll) := cameraFrame_eq hi hr
  have hawait : rollAwaited u.film = false := by simp [rollAwaited, hready]
  have hfit : ¬ roll.capacity + 1 - roll.next < (u.tables.pattern[c.slip.pattern]).length := by omega
  have hfree : ¬ freeRecords u.records < (u.tables.pattern[c.slip.pattern]).length := by
    unfold freeRecords Config.mapPlaces; omega
  have hpass : ceilingPasses c.slip.account (u.tables.pattern[c.slip.pattern]).length u.money = true :=
    (ceilingPasses_eq u c.slip).trans hceiling
  have hmet : lightingReady (stands d fs u).toState = true :=
    lightingReady_metered (c := c) (by simpa using hl) (by simpa using hs) hm
  rw [stands_toState] at hmet
  simp only [evaluateSetStart, stands_toState, hawait, hl, hframe, hready, if_neg hfit, if_neg hfree, hpass, hmet,
    if_neg (not_not_intro hstock)]
  simp

/-- The set context captured at a set start (R99). -/
def capturedSet (c : Current) (u : State) : SetCtx :=
  let stock := u.tables.stock[c.slip.stock]
  let pattern := u.tables.pattern[c.slip.pattern]
  let rate := u.money.rates[(u.money.accounts[c.slip.account]).rateClass]
  { stock, pattern, times := pattern.map (stepTime stock c.factor), frameFee := rate.frameFee, copyFee := rate.copyFee,
    step := 1, head := none, again := false }

theorem beginSet_captures (hs : u.seq.slip = some c) :
    beginSet (stands d fs u) = beginStep (stands d fs { u with seq := { u.seq with
      wait := none, slip := some { c with made := c.made + 1 }, set := some (capturedSet c u) } }) := by
  simp only [beginSet, stands_toState, hs, stands_setSeq]
  rfl

end SetStart

/-! ### The end of an event in which a step goes on (log 10) -/

section Step
variable {d d' : Due} {fs fs' : List Flag} {u u' : State}

theorem evaluateWait_elsewhere (told : Bool) (h : u.seq.state ≠ .setReady) :
    evaluateWait told (stands d fs u) = stands d fs u := by simp [evaluateWait, h]

/-- Outside SET_READY settling only takes the marks off. -/
theorem settle_elsewhere (n : Nat) (h : u.seq.state ≠ .setReady) :
    settle (n + 1) (stands d fs u) = stands { arb := d.arb } fs u := by
  cases hd : d.go || d.wake with
  | true => exact settle_evaluates _ _ { arb := d.arb } _ _ _ _ hd (evaluateWait_elsewhere _ h) rfl
  | false =>
    obtain ⟨hg, hw⟩ := Bool.or_eq_false_iff.mp hd
    rw [settle_settled _ _ (by simp) (by simpa using hg) (by simpa using hw)]
    simp only [stands_eq, hg, hw]

/-- An event whose step goes on to a state that waits for nothing ends with the report of its flags. -/
theorem finish_step (hcmp : compareStep (stands d fs u) = stands d' fs' u') (hr : u'.seq.state ≠ .setReady)
    (hi : u'.seq.state ≠ .idle) :
    finish { stands d fs u with step := true } = { u' with line := raised u'.stand fs' u'.line } := by
  have hclear : { stands d fs u with step := false } = stands d fs u := by simp only [stands_eq]
  have hsettle : settle settleRounds { stands d fs u with step := true } = settle 99 (stands d' fs' u') := by
    rw [settleRounds, settle, if_pos rfl, ← hcmp]
    exact congrArg (fun e => settle 99 (compareStep e)) hclear
  rw [← finish_atRest (d := d') (atRest_of_state hr hi)]
  unfold finish
  rw [hsettle, settle_elsewhere _ hr, settleRounds, settle_elsewhere _ hr]

end Step

end Sys2Proof.Machine
end

section
/-! A slip's factor (O28) and the end of the warm-up (O39). -/

namespace Sys2Proof.Machine

/-! ### A slip's factor (R76, R77) -/

theorem factorFromCounts_eq (g r c : Nat) :
    factorFromCounts g r c =
      let q := (2 * r * c + g * 64) / (2 * g * 64)
      if g = 0 ∨ 16777215 < q then { f256 := 16777215, mark := some .over }
      else if q = 0 then { f256 := 1, mark := some .under }
      else { f256 := q, mark := none } := by
  unfold factorFromCounts factorQuotient
  by_cases hg : g = 0
  · simp [hg]
  · simp [hg]

theorem cameraSlot_elapse (n : Nat) (s : State) : cameraSlot (elapse n s).film = cameraSlot s.film :=
  findRoll_congr _ (elapse_rolls n s)

theorem awaitsRoll_elapse (n : Nat) (s : State) : awaitsRoll (elapse n s).film = awaitsRoll s.film := by
  unfold elapse; split <;> rfl

/-- A slip's metering that ends outside a set hands its factor to the sequencer (R67, R95). -/
theorem meteringEnds_outside {d : Due} {fs : List Flag} {u : State} {c : Current} {j : MeterJob}
    (hj : u.meter.job = some j) (hu : j.user = .sequencer) (hs : u.seq.slip = some c) (hset : u.seq.set = none) :
    meteringEnds (stands d fs u) = stands { d with go := true } fs
      (setReadyWith (lighted (factorFromCounts u.meter.count j.refCount j.cal) c)
        { u with meter := { meterFree u.meter with timeBase := 0 } }) := by
  simp only [meteringEnds, stands_toState, hj, hu, meterStops, stands_setMeter]
  rw [lightingMetered_outside _ (by exact hs) (by exact hset)]
  rfl

/-- The end of an event in which a lit slip's set start finds no roll to expose, or awaits one (R97, R98, R106). -/
theorem finish_rollWait {d : Due} {u : State} {c : Current} (hd : d.go = true) (hm : u.modes.current = .run)
    (hl : u.lamp.state = .lit) (hu : u.lamp.user = some .sequencer) (hc : 0 < cooling u)
    (hroll : cameraSlot u.film = none ∨ awaitsRoll u.film = true) :
    finish (stands d [] (setReadyWith c u)) = { darkened u with
      seq := { state := .setReady, wait := some .roll, set := none, slip := some (unlit c) } } := by
  have hlit : (setReadyWith c u).lamp.state ≠ .cooling := by simp [setReadyWith, hl]
  have hwait : evaluateWait d.go (stands { arb := d.arb } [] (setReadyWith c u)) = _ :=
    ((evaluateWait_run (by rfl) (by rfl) (by rfl) (by exact hm)).trans
      (evaluateSetStart_rollWait hlit (by exact hroll))).trans
      (enterWait_lit _ (.inr (by exact hl)) (by exact hu) (by exact hc))
  rw [finish_evaluates (by simp [hd]) hwait rfl (by simp [lightsOut]), raised_nil]
  rfl

/-- Settles O28: the lighting is metered with the factor, and the set start then evaluated waits on ROLL. -/
theorem meteringGivesFactor : Obligations.MeteringGivesFactor := by
  intro s j x hph hj hu hl hlu hset hs hrun hroll
  dsimp only
  rw [← factorFromCounts_eq, ← elapse_meterCount (untilGateEnd s) s]
  intro hc
  rw [exec_gatePhaseEnd hph, meteringEnds_outside (c := x) (j := j) (by simpa using hj) hu (by simpa using hs)
      (by simpa using hset),
    finish_rollWait rfl (by simpa using hrun) (by simpa using hl) (by simpa using hlu) (by exact hc)
      (by simpa [cameraSlot_elapse, awaitsRoll_elapse] using hroll)]
  rfl

/-! ### A proof made (R112 to R114) -/

section Proof
variable {d : Due} {fs : List Flag} {u : State} {c : Current}

/-- A slip's end with its proof made: no set is counted (R55, R108, R114). -/
theorem slipEnd_proofed (hs : u.seq.slip = some c) (hl : lampServes .sequencer u.lamp = false) :
    slipEnd .proofed (stands d fs u) =
      stands { d with arb := true } (fs ++ slipFlags u) (slipGone .proofed { c with made := 0, incomplete := 0 } u) := by
  simp only [slipEnd, stands_toState, hs, if_true, appendEnded_stands]
  rw [extinguishFor_unserved (by exact hl)]
  simp only [stands_toState, stands_setSeq, stands_setFlagIf, stands_arbiterDue, List.append_assoc]
  rfl

/-- A PF card that finds a place enters the queue in the event that made it, and its slip ends (R114). -/
theorem pfEnters_free {e : Event} (pf : Card) (htx : e.line.tx.length < 16) :
    pfEnters (e.setLine { e.line with pfWaiting := some pf }) =
      slipEnd .proofed (e.setLine { e.line with tx := e.line.tx ++ [pf], pfWaiting := none }) := by
  have hfree : txFree (e.setLine { e.line with pfWaiting := some pf }).toState = true := decide_eq_true htx
  simp only [pfEnters, hfree, if_true]
  rfl

/-- The flag of a proof whose steps bear one of the four marks (R91, R113). -/
def proofFlags (c : Current) (u : State) : List Flag :=
  if (patternTimes u.tables.stock[c.slip.stock] c.factor u.tables.pattern[c.slip.pattern]).any fun t => t.marks.clamps
  then [.clamp] else []

/-- The state with the PF card of a slip queued (R113, R114). -/
def pfQueued (c : Current) (u : State) : State :=
  { u with line := { u.line with tx := u.line.tx ++ [pfCard c u.tables], pfWaiting := none } }

/-- A proof made with the lamp on for the sequencer and a place in the queue. -/
theorem prove_lit (hs : u.seq.slip = some c) (hl : u.lamp.state = .lit) (hu : u.lamp.user = some .sequencer)
    (hw : u.lamp.waiting = none) (hc : 0 < cooling u) (htx : u.line.tx.length < 16) :
    prove c (stands d fs u) =
      stands { d with arb := true } (fs ++ proofFlags c u ++ slipFlags u)
        (slipGone .proofed { c with made := 0, incomplete := 0 } (darkened (pfQueued c u))) := by
  simp only [prove, stands_toState, seqTo, stands_setSeq, stands_setFlagIf]
  rw [← proofFlags, extinguishFor_on (by exact .inr hl) (by exact hu) (by exact hc),
    pfEnters_free _ (by rw [stands_tx]; exact htx), stands_setTransmit, stands_tx,
    slipEnd_proofed (c := unlit c) (by simp [lightsOut, hs]) (lampServes_dark _ (.inr ⟨by rfl, by exact hw⟩))]
  rfl

end Proof

/-- A step's marks set CLAMP when one of the four is among them (R91). -/
theorem clampFlags_ne_nil (m : Marks) : clampFlags m ≠ [] ↔ m.clamps = true := by
  unfold clampFlags Marks.clamps
  split
  · next h => simp [h]
  · next h => simp [h]

theorem proofMade_eq (c : Current) (u : State) :
    proofMade c u = slipOut (proofFlags c u) .proofed { c with made := 0, incomplete := 0 } (darkened (pfQueued c u)) := by
  have hflags : (((u.tables.pattern[c.slip.pattern]).map fun v =>
      (v, stepTime u.tables.stock[c.slip.stock] c.factor v)).any fun p => clampFlags p.2.marks ≠ []) =
      (patternTimes u.tables.stock[c.slip.stock] c.factor u.tables.pattern[c.slip.pattern]).any fun t => t.marks.clamps := by
    simp only [patternTimes, List.any_map, Function.comp_def, clampFlags_ne_nil, Bool.decide_eq_true]
  unfold proofMade proofFlags pfQueued
  simp only [hflags, List.flatMap_map]
  rfl

/-- The end of an event that makes a proof of a lit slip with the gate still active (R112 to R114). -/
theorem finish_proof {d : Due} {u : State} {c : Current} (hd : d.go = true) (hm : u.modes.current = .proof)
    (hst : u.seq.state = .setReady) (hset : u.seq.set = none) (hs : u.seq.slip = some c) (hmet : c.metered = true)
    (hl : u.lamp.state = .lit) (hu : u.lamp.user = some .sequencer) (hw : u.lamp.waiting = none) (hc : 0 < cooling u)
    (htx : u.line.tx.length < 16) (hg : u.inputs.gate.debounced = true) :
    finish (stands d [] u) = proofMade c u := by
  have hready : lightingReady (stands { arb := d.arb } [] u).toState = true := by
    rw [stands_toState]
    exact lightingReady_metered (c := c) hl hs hmet
  have hchecks : proofChecks c (stands { arb := d.arb } [] u) = prove c (stands { arb := d.arb } [] u) := by
    rw [proofChecks, if_neg (by simp [hl]), if_pos hready]
  rw [finish_evaluates (by simp [hd]) (((evaluateWait_proof hst hset hs hm).trans hchecks).trans
    (prove_lit hs hl hu hw hc htx)) rfl (by simp [slipGone, darkened, pfQueued, hg]), proofMade_eq, slipOut_eq]
  rfl

/-! ### The end of the warm-up (R119) -/

theorem setMayStart_elapse {n : Nat} {s : State} {a : Slip} {i : Fin 4} {roll : Roll} (h : SetMayStart s a i roll) :
    SetMayStart (elapse n s) a i roll := by
  obtain ⟨hready, ⟨hi, hr⟩, hstock, hframes, hmap, hceiling⟩ := h
  refine ⟨by simpa using hready, ⟨(cameraSlot_elapse n s).trans hi, by simpa using hr⟩, hstock, by simpa using hframes,
    by simpa using hmap, ?_⟩
  unfold ceilingFits at hceiling ⊢
  simpa using hceiling

theorem fitToOpen_elapse {n : Nat} {s : State} (h : FitToOpen s) : FitToOpen (elapse n s) :=
  ⟨by simpa using h.run, by simpa using h.shutter, by rw [elapse_inputs]; exact h.door,
    by rw [elapse_inputs]; exact h.gate⟩

theorem exec_warmUpExpiry {s : State} {n : Nat} (h : s.lamp.warmUp = some n) :
    exec .warmUpExpiry s = .next (finish (lampLit (stands {} [] (elapse n s)))) := by
  show expires s.lamp.warmUp lampLit s = _
  rw [h, expires_running, begin_stands]

section WarmUp
variable {u : State} {c : Current} {i : Fin 4} {roll : Roll}

/-- A set start with its set context captured, its first step at hand (R99, R100). -/
def setCaptured (c : Current) (u : State) : State :=
  { u with seq :=
    { state := .setReady, wait := none, slip := some { c with made := c.made + 1 }, set := some (capturedSet c u) } }

theorem beginSet_goesOn {d : Due} {fs : List Flag} (hs : u.seq.slip = some c) (hmet : c.metered = true)
    (hl : u.lamp.state = .lit) (hf : u.film.state = .ready) (hi : cameraSlot u.film = some i)
    (hr : u.film.rolls[i] = some roll) (hn : roll.next ≤ roll.capacity) (hlen : u.records.length < 2048) :
    beginSet (stands d fs u) = compareStep (stands d fs (setCaptured c u)) := by
  rw [beginSet_captures hs, beginStep_goesOn (by exact hf) (by exact hi) (by exact hr) hn (by exact hlen) (by exact hl)
    (by rfl) (by exact hmet)]
  rfl

/-- The end of an event in which a slip with its lighting metered starts its set, every check passing (R97 to R102). -/
theorem finish_setStart {d : Due} {v : Int} {vs : List Int} (hd : d.go = true) (hst : u.seq.state = .setReady)
    (hset : u.seq.set = none) (hs : u.seq.slip = some c) (hmet : c.metered = true) (hl : u.lamp.state = .lit)
    (hfit : FitToOpen u) (hmay : SetMayStart u c.slip i roll) (hp : u.tables.pattern[c.slip.pattern] = v :: vs)
    (hn : 1 ≤ roll.next) (hfree : ∀ r ∈ u.records, ¬ (r.slot = i ∧ r.frame = roll.next))
    (ht : (stepTime u.tables.stock[c.slip.stock] c.factor v).time ≤ allowance u) :
    finish (stands d [] u) = setBegun i roll.next c (v :: vs) u := by
  obtain ⟨hi, hr⟩ := hmay.camera
  have hframes := hmay.frames
  have hmap := hmay.map
  rw [hp, List.length_cons] at hframes hmap
  have hcap : roll.next ≤ roll.capacity := by omega
  have hlen : u.records.length < 2048 := by omega
  have hopens : exposureFit u = true := fit_of_fitToOpen hfit hl hmay.ready
  have htime : presentTime (capturedSet c u) = stepTime u.tables.stock[c.slip.stock] c.factor v := by
    simp [presentTime, capturedSet, hp]
  have hbegins : evaluateWait d.go (stands { arb := d.arb } [] u) =
      stands { wake := true, arb := d.arb } (clampFlags (presentTime (capturedSet c u)).marks)
        (exposureBegun i roll.next { c with made := c.made + 1 } (capturedSet c u) (presentTime (capturedSet c u))
          (setCaptured c u)) := by
    rw [evaluateWait_run hst hset hs hfit.run, evaluateSetStart_begins hmay hl hs hmet,
      beginSet_goesOn hs hmet hl hmay.ready hi hr hcap hlen,
      compareStep_within (by rfl) (by rfl) (by rw [htime]; exact ht),
      beginExposure_begins (by exact hi) (by exact hr) (by rfl) (by rfl) (by exact hopens) (by exact hfit.shutter)
        (creationRefused_eq_false (by exact hn) (by exact hcap) (by exact hlen) (by exact hfree))]
    rfl
  rw [finish_evaluates (by simp [hd]) hbegins rfl (by simp [exposureBegun]), htime]
  simp [setBegun, exposureBegun, setCaptured, capturedSet, stepRecord, hp, hmet]

/-- The end of an event in which a step of a set goes on, within the allowance (R100 to R102). -/
theorem finish_stepGoesOn {d : Due} {x : SetCtx} {h : Nat} {t : StepTime} (hs : u.seq.slip = some c)
    (hset : u.seq.set = some x) (hh : x.head = some h) (hl : u.lamp.state = .lit) (hfit : FitToOpen u)
    (hf : u.film.state = .ready) (hi : cameraSlot u.film = some i) (hr : u.film.rolls[i] = some roll) (hn : 1 ≤ roll.next)
    (hcap : roll.next ≤ roll.capacity) (hlen : u.records.length < 2048)
    (hfree : ∀ r ∈ u.records, ¬ (r.slot = i ∧ r.frame = roll.next)) (hx : presentTime x = t) (ht : t.time ≤ allowance u) :
    finish { stands d [] u with step := true } = stepExposed i roll.next h c x t u := by
  have hopens : exposureFit u = true := fit_of_fitToOpen hfit hl hf
  have hbegins : compareStep (stands d [] u) =
      stands { d with wake := true } (clampFlags t.marks) (exposureBegun i roll.next c x t u) := by
    rw [compareStep_within hs hset (by rw [hx]; exact ht), hx, beginExposure_begins hi hr hs hset hopens hfit.shutter
      (creationRefused_eq_false (by exact hn) (by exact hcap) (by exact hlen) (by exact hfree))]
    rfl
  have hhead : { x with head := some (x.head.getD roll.next) } = x := by rw [hh, Option.getD_some, ← hh]
  rw [finish_step hbegins (by simp [exposureBegun]) (by simp [exposureBegun]), exposureBegun, hhead]
  simp [stepExposed, stepRecord, laterRecord, hh]

end WarmUp

/-- The remaining allowance at the end of the warm-up (R120). -/
theorem allowance_nowLit (n : Nat) (s : State) :
    allowance (nowLit (elapse n s)) = 10 * (guardLimitMs s - (elapse n s).lamp.lit / Config.ms) := by
  unfold guardLimitMs
  rw [← elapse_stand n s]
  rfl

section Density
variable {s : State} {n dn : Nat} {x : Current} {i : Fin 4} {roll : Roll}
  (hw : s.lamp.warmUp = some n) (hu : s.lamp.user = some .sequencer) (hst : s.seq.state = .warming)
  (hs : s.seq.slip = some x) (hd : x.slip.density = some dn)
include hw hu hst hs hd

/-- A slip with a density is not metered when the lamp is LIT: its lighting counts as metered (R95). -/
theorem exec_warmUpExpiry_density :
    exec .warmUpExpiry s = .next (finish (lightingMetered x.factor (stands {} [] (nowLit (elapse n s))))) := by
  rw [exec_warmUpExpiry hw, lampLit_sequencer ((elapse_lampUser n s).trans hu),
    sequencerLit_density (c := x) (by simpa [nowLit] using hst) (by simpa [nowLit] using hs) hd]

theorem exec_warmUpExpiry_outside (hset : s.seq.set = none) :
    exec .warmUpExpiry s =
      .next (finish (stands { go := true } [] (setReadyWith (lighted x.factor x) (nowLit (elapse n s))))) := by
  rw [exec_warmUpExpiry_density hw hu hst hs hd, lightingMetered_outside (c := x) _ (by simpa [nowLit] using hs)
    (by simpa [nowLit] using hset)]

/-- Its set starts, every check passing and the first step within the allowance (R97 to R102). -/
theorem exec_warmUpExpiry_setStart {v : Int} {vs : List Int} (hset : s.seq.set = none) (hfit : FitToOpen s)
    (hmay : SetMayStart s x.slip i roll) (hp : s.tables.pattern[x.slip.pattern] = v :: vs) (hn : 1 ≤ roll.next)
    (hfree : ∀ r ∈ s.records, ¬ (r.slot = i ∧ r.frame = roll.next))
    (ht : (stepTime s.tables.stock[x.slip.stock] x.factor v).time
      ≤ 10 * (guardLimitMs s - (elapse n s).lamp.lit / Config.ms)) :
    exec .warmUpExpiry s = .next (setBegun i roll.next x (v :: vs) (nowLit (elapse n s))) := by
  obtain ⟨hrun, hshut, hdoor, hgate⟩ := fitToOpen_elapse (n := n) hfit
  obtain ⟨hready, hcamera, hstock, hframes, hmap, hceiling⟩ := setMayStart_elapse (n := n) hmay
  rw [← allowance_nowLit, ← elapse_tables n s] at ht
  rw [← elapse_tables n s] at hp
  rw [exec_warmUpExpiry_outside hw hu hst hs hd hset,
    finish_setStart (u := setReadyWith (lighted x.factor x) (nowLit (elapse n s))) rfl rfl rfl rfl rfl rfl
      ⟨hrun, hshut, hdoor, hgate⟩ ⟨hready, hcamera, hstock, hframes, hmap, hceiling⟩ hp hn
      (by simpa [setReadyWith, nowLit] using hfree) ht]
  rfl

/-- Its proof is made (R112 to R114). -/
theorem exec_warmUpExpiry_proof (hset : s.seq.set = none) (hwait : s.lamp.waiting = none) (hm : s.modes.current = .proof)
    (htx : s.line.tx.length < 16) (hg : s.inputs.gate.debounced = true) (hc : 0 < cooling (elapse n s)) :
    exec .warmUpExpiry s = .next (proofMade x (nowLit (elapse n s))) := by
  rw [← elapse_modes n s] at hm
  rw [← elapse_tx n s] at htx
  have hg' : (elapse n s).inputs.gate.debounced = true := by rw [elapse_inputs]; exact hg
  rw [exec_warmUpExpiry_outside hw hu hst hs hd hset,
    finish_proof (u := setReadyWith (lighted x.factor x) (nowLit (elapse n s))) rfl hm rfl rfl rfl rfl rfl
      ((elapse_lampUser n s).trans hu) ((elapse_lampWaiting n s).trans hwait) hc htx hg']
  rfl

/-- Inside a set its step goes on, with the times of the steps not yet exposed taken anew (R100, R101). -/
theorem exec_warmUpExpiry_step {y : SetCtx} {h : Nat} {t : StepTime} (hset : s.seq.set = some y) (hh : y.head = some h)
    (hfit : FitToOpen s) (hf : s.film.state = .ready) (hi : cameraSlot s.film = some i)
    (hr : s.film.rolls[i] = some roll) (hn : 1 ≤ roll.next) (hcap : roll.next ≤ roll.capacity)
    (hlen : s.records.length < 2048) (hfree : ∀ r ∈ s.records, ¬ (r.slot = i ∧ r.frame = roll.next))
    (ht : (y.retimed x.factor).times[y.step - 1]? = some t)
    (hle : t.time ≤ 10 * (guardLimitMs s - (elapse n s).lamp.lit / Config.ms)) :
    exec .warmUpExpiry s =
      .next (stepExposed i roll.next h { x with metered := true } (y.retimed x.factor) t (nowLit (elapse n s))) := by
  obtain ⟨hrun, hshut, hdoor, hgate⟩ := fitToOpen_elapse (n := n) hfit
  have hpresent : presentTime (y.retimed x.factor) = t := by
    rw [presentTime, List.getD_eq_getElem?_getD]
    exact congrArg (·.getD { time := 10, marks := Marks.clear }) ht
  rw [← allowance_nowLit] at hle
  rw [← elapse_records n s] at hlen hfree
  rw [← elapse_rolls n s] at hr
  rw [exec_warmUpExpiry_density hw hu hst hs hd, lightingMetered_inside (c := x) (y := y) _ (by simpa [nowLit] using hs)
      (by simpa [nowLit] using hset),
    finish_stepGoesOn (u := setReadyInside (lighted x.factor x) (y.retimed x.factor) (nowLit (elapse n s))) rfl rfl hh rfl
      ⟨hrun, hshut, hdoor, hgate⟩ ((elapse_filmState n s).trans hf) ((cameraSlot_elapse n s).trans hi) hr hn hcap hlen hfree
      hpresent hle]
  rfl

end Density

/-- Settles O39: the lamp's user is told that it is LIT, and a slip with a density goes on within the event. -/
theorem warmUpEnds : Obligations.WarmUpEnds := by
  intro s n hw hph
  have hph' : (elapse n s).meter.phase = .idle := (elapse_meterPhase n s).trans hph
  refine ⟨fun hu => ?_, fun x hu hst hs hd => ?_, fun x dn hu hst hs hd hwait => ⟨?_, ?_, ?_⟩⟩
  · rw [exec_warmUpExpiry hw, lampLit_calibration ((elapse_lampUser n s).trans hu), beginMetering_idle (by exact hph'),
      finish_unflagged, ← elapse_meterEntry n s]
    rfl
  · rw [exec_warmUpExpiry hw, lampLit_sequencer ((elapse_lampUser n s).trans hu),
      sequencerLit_meters (c := x) (by simpa [nowLit] using hst) (by simpa [nowLit] using hs) hd,
      beginMetering_idle (by exact hph'), finish_unflagged, ← elapse_meterEntry n s, ← elapse_seq n s]
    rfl
  · intro i roll v vs hset hfit hmay hp hn hfree ht
    exact exec_warmUpExpiry_setStart hw hu hst hs hd hset hfit hmay hp hn hfree ht
  · intro hset hm htx hg hc
    exact exec_warmUpExpiry_proof hw hu hst hs hd hset hwait hm htx hg hc
  · intro y h i roll t hset hh hfit hf hi hr hn hcap hlen hfree _ ht hle
    exact exec_warmUpExpiry_step hw hu hst hs hd hset hh hfit hf hi hr hn hcap hlen hfree ht hle

end Sys2Proof.Machine
end

section
/-! The guard's expiry by a TB STAND write (O41): the write wakes the wait that the expiry began, and R106 decides its cause. -/

namespace Sys2Proof.Machine

/-- In RUN, a slip's metering outside a set, its slide in the gate and the lamp lit for 2 s; the transport is in FAULT(DOOR). -/
def meteringAtDoorFault : State :=
  { State.reset with
    line := { State.reset.line with tx := [], flags := [] }
    modes := { requested := .run, current := .run, change := .none }
    meter := { State.reset.meter with
      phase := .gate, timeBase := -5
      job := some { user := .sequencer, refCount := 65536, cal := 16384, base := .slow } }
    lamp :=
      { state := .lit, user := some .sequencer, waiting := none, lit := 2000 * Config.ms, warmUp := none, coolDown := none }
    inputs := { State.reset.inputs with gate := { raw := true, debounced := true, timer := none, edgeSeen := false } }
    film := { State.reset.film with
      state := .faultDoor
      rolls := State.reset.film.rolls.set 0
        (some { state := .camera, number := 12, stock := 0, capacity := 800, next := 1, fogged := true }) }
    seq :=
      { state := .metering, wait := none, set := none
        slip := some
          { slip :=
              { number := 417, account := 7, queue := 2, catalog := txt "HA-1", title := none, copies := 1, stock := 0,
                pattern := 0, format := 0, density := none, cancelPending := false }
            copy := 1, made := 0, incomplete := 0, factor := { f256 := 1, mark := none }, metered := false, fresh := false } } }

/-- The fields of a TB STAND card that writes the guard limit alone: 2 s. -/
def shortGuard : List Text := [[], [], [], [], txt "2", [], [], [], [], [], [], [], []]

/-- The wait cause that an outcome shows. -/
def waitAfter : Host.Outcome State Fault Refusal → Option WaitCause
  | .next t => t.seq.wait
  | _ => none

/-- The write wakes the set start that waits, which in FAULT(DOOR) shows ROLL (R98, R106, log 27). -/
theorem waitAfter_shortGuard :
    waitAfter (exec (.tbStand (txt "0" :: shortGuard)) meteringAtDoorFault) = some .roll := by decide

/-- Refutes O41: its last clause has the sequencer wait on LAMP after every such TB STAND write, but in RUN, outside a set and
with the transport in FAULT(DOOR), the accepted write has the wait evaluated again in the same event and it shows ROLL. -/
theorem not_guardExpires : ¬ Obligations.GuardExpires := by
  rintro ⟨-, -, hwrite⟩
  have hlamp := hwrite meteringAtDoorFault (txt "0") shortGuard { StandEntry.default with guardLimit := 2 } (by decide)
    (by decide) (by decide) (by decide) (by decide) (by decide) (by decide) (by decide) (by decide) (by decide) (by decide)
    (by decide)
  have hroll := waitAfter_shortGuard
  rw [hlamp] at hroll
  exact absurd hroll (by decide)

end Sys2Proof.Machine
end

section
/-! The exposure calculator: the density table (O29), the proof density (O31), the factor of a metering (O32), the stretch
(O33) and the time of a step with its marks (O34). A settling theorem whose name the model has for a function stands in the
namespace `Exposure`. -/

namespace Sys2Proof.Machine

/-! ### The density table (R78) -/

theorem densityEntry_rounds : ∀ k : Fin 100, (2 * densityEntry k - 1) ^ 100 ≤ (2 * 65536) ^ 100 * 10 ^ k.val
    ∧ (2 * 65536) ^ 100 * 10 ^ k.val < (2 * densityEntry k + 1) ^ 100 := by decide

theorem densityEntry_rises : ∀ k : Fin 99, densityEntry k * 102 < densityEntry (k + 1) * 100 := by decide

theorem densityEntry_ge : ∀ k : Fin 100, 65536 ≤ densityEntry k := by decide

theorem finish_replyAn (kind : Text) (key answer : List Text) (s : State) :
    finish (replyAn kind key answer s.begin) = sends (anCard kind key answer) s := finish_unmarked _ rfl rfl rfl rfl rfl

theorem tableQuery_answers {name : Text} {n : Nat} {entry : Fin n → State → List Text} {args : List Text} {e : Event}
    {i : Fin n} (h : oneField (finField n) args = some i) :
    tableQuery name n entry args e =
      replyAn (txt "QY") [txt "TABLE", name, natKey (args.getD 0 []) i.val] (entry i e.toState) e := by
  simp only [tableQuery, h]

theorem tableQuery_refuses {name : Text} {n : Nat} {entry : Fin n → State → List Text} {args : List Text} {e : Event}
    (h : oneField (finField n) args = none) :
    tableQuery name n entry args e = replyNo (txt "QY") [txt "TABLE", name, args.getD 0 []] .field e := by
  simp only [tableQuery, h]

theorem exec_qyTableDensity {s : State} (args : List Text) (htx : s.line.tx.length < 16) :
    exec (.qyTableDensity args) s =
      .next (finish (tableQuery (txt "DENSITY") 100 (fun i _ => [dec (densityEntry i.val)]) args s.begin)) :=
  takeCard_free _ _ htx

namespace Exposure

/-- Settles O29: the table's own entries are checked, and the query reads its index as every table query does. -/
theorem densityTable : Obligations.DensityTable := by
  refine ⟨densityEntry_rounds, densityEntry_rises, fun s args htx => ⟨fun k hk => ?_, fun hnone => ?_⟩⟩
  · rw [exec_qyTableDensity args htx, tableQuery_answers hk, finish_replyAn]
  · rw [exec_qyTableDensity args htx, tableQuery_refuses hnone, finish_replyNo]

end Exposure

/-! ### The factor of a density (R79) -/

theorem factorOfDensity_nearest (d : Nat) :
    512 * factorOfDensity d ≤ 2 * densityEntry (d % 100) * 10 ^ (d / 100) + 256
      ∧ 2 * densityEntry (d % 100) * 10 ^ (d / 100) + 256 < 512 * (factorOfDensity d + 1) :=
  ⟨Nat.mul_div_le _ _, Nat.lt_mul_div_succ _ (by decide)⟩

/-- Entries half a factor step apart, each scaled by its power of ten, round to different factors. -/
theorem roundedFactor_lt {a b p q : Nat} (h : a * p + 256 ≤ b * q) : (2 * a * p + 256) / 512 < (2 * b * q + 256) / 512 := by
  rw [Nat.mul_assoc, Nat.mul_assoc]
  omega

/-- Within a hundred the entry rises by more than 2 per cent; past it the power of ten does (R78). -/
theorem factorOfDensity_lt_succ (d : Nat) : factorOfDensity d < factorOfDensity (d + 1) := by
  have hpow : 1 ≤ 10 ^ (d / 100) := Nat.one_le_pow _ _ (by decide)
  refine roundedFactor_lt ?_
  by_cases hk : d % 100 < 99
  · have hrises := densityEntry_rises ⟨d % 100, hk⟩
    have hlow := densityEntry_ge ⟨d % 100, by omega⟩
    rw [show (d + 1) % 100 = d % 100 + 1 by omega, show (d + 1) / 100 = d / 100 by omega]
    dsimp only at hrises hlow
    calc densityEntry (d % 100) * 10 ^ (d / 100) + 256
        ≤ densityEntry (d % 100) * 10 ^ (d / 100) + 256 * 10 ^ (d / 100) := by omega
      _ = (densityEntry (d % 100) + 256) * 10 ^ (d / 100) := (Nat.add_mul _ _ _).symm
      _ ≤ densityEntry (d % 100 + 1) * 10 ^ (d / 100) := Nat.mul_le_mul_right _ (by omega)
  · rw [show d % 100 = 99 by omega, show (d + 1) % 100 = 0 by omega, show (d + 1) / 100 = d / 100 + 1 by omega, Nat.pow_succ,
      show densityEntry 99 = 640442 from rfl, show densityEntry 0 = 65536 from rfl]
    omega

theorem factorOfDensity_lt {a b : Nat} (h : a < b) : factorOfDensity a < factorOfDensity b := by
  induction h with
  | refl => exact factorOfDensity_lt_succ a
  | step _ ih => exact Nat.lt_trans ih (factorOfDensity_lt_succ _)

theorem le_of_factorOfDensity_le {a b : Nat} (h : factorOfDensity a ≤ factorOfDensity b) : a ≤ b :=
  Nat.le_of_not_lt fun hlt => Nat.not_lt.2 h (factorOfDensity_lt hlt)

/-- No density has a factor below 256, that of density 0. -/
theorem factorOfDensity_ge (d : Nat) : 256 ≤ factorOfDensity d := by
  cases d with
  | zero => decide
  | succ d => exact Nat.le_of_lt (factorOfDensity_lt (Nat.succ_pos d))

/-! ### The proof density (R80) -/

theorem searchDensity_le (f top : Nat) : searchDensity f top ≤ top := by
  induction top with
  | zero => exact Nat.le_refl 0
  | succ d ih =>
    rw [searchDensity]
    split
    · exact Nat.le_refl _
    · exact Nat.le_succ_of_le ih

/-- What the search finds does not exceed the factor, unless it ends at 0 with nothing found. -/
theorem factorOfDensity_searchDensity_le (f top : Nat) (h : 0 < searchDensity f top ∨ factorOfDensity 0 ≤ f) :
    factorOfDensity (searchDensity f top) ≤ f := by
  induction top with
  | zero => exact h.resolve_left (Nat.lt_irrefl 0)
  | succ d ih =>
    rw [searchDensity] at h ⊢
    split
    · assumption
    · rename_i hover
      rw [if_neg hover] at h
      exact ih h

/-- The search passes over no density whose factor fits. -/
theorem le_searchDensity {f d : Nat} (top : Nat) (hd : d ≤ top) (h : factorOfDensity d ≤ f) : d ≤ searchDensity f top := by
  induction top with
  | zero => exact hd
  | succ n ih =>
    rw [searchDensity]
    split
    · exact hd
    · rename_i hover
      have hne : d ≠ n + 1 := fun heq => hover (heq ▸ h)
      exact ih (by omega)

theorem proofDensity_of_lt {f : Nat} (h : f < 256) : proofDensity f = 0 :=
  Nat.eq_zero_of_not_pos fun hpos =>
    absurd (factorOfDensity_searchDensity_le f 480 (.inl hpos))
      (Nat.not_le.2 (Nat.lt_of_lt_of_le h (factorOfDensity_ge _)))

theorem factorOfDensity_proofDensity_le {f : Nat} (h : 256 ≤ f) : factorOfDensity (proofDensity f) ≤ f :=
  factorOfDensity_searchDensity_le f 480 (.inr h)

theorem le_proofDensity {f d : Nat} (hd : d ≤ 480) (h : factorOfDensity d ≤ f) : d ≤ proofDensity f :=
  le_searchDensity 480 hd h

theorem proofDensity_factorOfDensity {d : Nat} (hd : d ≤ 480) : proofDensity (factorOfDensity d) = d :=
  Nat.le_antisymm (le_of_factorOfDensity_le (factorOfDensity_proofDensity_le (factorOfDensity_ge d)))
    (le_proofDensity hd (Nat.le_refl _))

namespace Exposure

/-- Settles O31: the factor rises strictly with the density, so the search from the top finds its inverse. -/
theorem proofDensity : Obligations.ProofDensity :=
  ⟨fun d _ => factorOfDensity_nearest d, fun _ _ hlt _ => factorOfDensity_lt hlt, fun _ => proofDensity_of_lt,
    fun f hf => ⟨searchDensity_le f 480, factorOfDensity_proofDensity_le hf, fun _ => le_proofDensity⟩,
    fun _ => proofDensity_factorOfDensity⟩

end Exposure

/-! ### The factor of a metering (R76, R77) -/

section Metering
variable {g r c : Nat}

/-- What the rounded quotient reaches, as a comparison of products. -/
theorem le_factorQuotient_iff (hg : g ≠ 0) (n : Nat) :
    n ≤ factorQuotient g r c ↔ 128 * g * n ≤ 2 * r * c + 64 * g := by
  rw [factorQuotient, Nat.le_div_iff_mul_le (by omega), show 2 * g * 64 = 128 * g by omega, Nat.mul_comm n,
    Nat.mul_comm g 64]

theorem factorQuotient_nearest (hg : g ≠ 0) :
    128 * g * factorQuotient g r c ≤ 2 * r * c + 64 * g
      ∧ 2 * r * c + 64 * g < 128 * g * (factorQuotient g r c + 1) :=
  ⟨(le_factorQuotient_iff hg _).1 (Nat.le_refl _), Nat.lt_of_not_le fun h => Nat.lt_irrefl _ ((le_factorQuotient_iff hg _).2 h)⟩

theorem factorQuotient_eq_zero_iff (hg : g ≠ 0) : factorQuotient g r c = 0 ↔ r * c < 32 * g := by
  have h := le_factorQuotient_iff (r := r) (c := c) hg 1
  rw [Nat.mul_assoc 2] at h
  omega

theorem factorFromCounts_over (h : g = 0 ∨ 16777215 < factorQuotient g r c) :
    factorFromCounts g r c = { f256 := 16777215, mark := some .over } := by
  rw [factorFromCounts_eq]; exact if_pos h

theorem factorFromCounts_under (hg : g ≠ 0) (h : factorQuotient g r c = 0) :
    factorFromCounts g r c = { f256 := 1, mark := some .under } := by
  simp [factorFromCounts, hg, h]

theorem factorFromCounts_unmarked (hg : g ≠ 0) (hlow : factorQuotient g r c ≠ 0) (hhigh : factorQuotient g r c ≤ 16777215) :
    factorFromCounts g r c = { f256 := factorQuotient g r c, mark := none } := by
  simp [factorFromCounts, hg, hlow, Nat.not_lt.2 hhigh]

end Metering

/-- Settles O32: the quotient lies above the range (or there is none), below it, or in it. -/
theorem factorFromMetering : Obligations.FactorFromMetering := by
  intro g r c _ _ _ _ _
  dsimp only
  by_cases hg : g = 0
  · rw [factorFromCounts_over (.inl hg)]
    simp [hg]
  have hover := le_factorQuotient_iff (r := r) (c := c) hg 16777216
  have hunder := factorQuotient_eq_zero_iff (r := r) (c := c) hg
  by_cases hhigh : 16777215 < factorQuotient g r c
  · have hends : 128 * g * 16777216 ≤ 2 * r * c + 64 * g := hover.1 hhigh
    have hnot : ¬ r * c < 32 * g := fun h => by have := hunder.2 h; omega
    rw [factorFromCounts_over (.inr hhigh)]
    simp [hends, Nat.not_lt.1 hnot]
  have hends : ¬ 128 * g * 16777216 ≤ 2 * r * c + 64 * g := fun h => hhigh (hover.2 h)
  by_cases hzero : factorQuotient g r c = 0
  · rw [factorFromCounts_under hg hzero]
    simp [hg, hunder.1 hzero, Nat.lt_of_not_le hends]
  · have hnot : ¬ r * c < 32 * g := fun h => hzero (hunder.2 h)
    rw [factorFromCounts_unmarked hg hzero (Nat.not_lt.1 hhigh)]
    simp [hg, Nat.not_lt.1 hnot, Nat.lt_of_not_le hends, factorQuotient_nearest hg, Nat.one_le_iff_ne_zero.2 hzero,
      Nat.not_lt.1 hhigh]

/-! ### The stretch (R88) -/

section Stretch
variable {knee slope t : Nat}

theorem stretchedTime_beyond (hk : 1 ≤ knee) (ht : knee < t) :
    stretchedTime knee slope t = knee + (2 * (t - knee) * slope + 256) / 512 := if_pos ⟨hk, ht⟩

theorem stretchedTime_within (h : knee = 0 ∨ t ≤ knee) : stretchedTime knee slope t = t := if_neg (by omega)

theorem stretchedTime_plain : stretchedTime knee 256 t = t := by
  unfold stretchedTime
  split <;> omega

/-- One more tenth of a millisecond of linear time stretches to 0 to 4 more, beyond the knee and across it alike. -/
theorem stretchedTime_succ (hhigh : slope ≤ 1024) :
    stretchedTime knee slope t ≤ stretchedTime knee slope (t + 1)
      ∧ stretchedTime knee slope (t + 1) ≤ stretchedTime knee slope t + 4 := by
  by_cases hwithin : knee = 0 ∨ t + 1 ≤ knee
  · rw [stretchedTime_within hwithin, stretchedTime_within (by omega)]
    omega
  rw [stretchedTime_beyond (t := t + 1) (by omega) (by omega)]
  by_cases hat : t = knee
  · rw [stretchedTime_within (.inr (Nat.le_of_eq hat)), hat, Nat.add_sub_cancel_left]
    omega
  · rw [stretchedTime_beyond (by omega) (by omega), show t + 1 - knee = t - knee + 1 by omega, Nat.mul_add_one,
      Nat.add_mul]
    omega

end Stretch

namespace Exposure

/-- Settles O33: the two cases of the stretch, its plain slope, and its least and greatest rise. -/
theorem stretchedTime : Obligations.StretchedTime := by
  refine fun knee slope t1 => ⟨stretchedTime_beyond, stretchedTime_within, stretchedTime_plain, fun t ht _ hhigh => ?_⟩
  obtain ⟨hle, hge⟩ := stretchedTime_succ (knee := knee) (t := t) hhigh
  exact ht ▸ ⟨hle, Nat.le_trans hge (by omega)⟩

end Exposure

/-! ### The time of a step and its marks (R87, R89, R90) -/

theorem linearTime_zero (f256 b : Nat) : linearTime 0 f256 b = 0 := by simp [linearTime]

/-- At a clear gate and step 0 the linear time is the base time (R87). -/
theorem linearTime_clear (base : Nat) : linearTime base 256 (bracketFactor 0) = base := by
  rw [linearTime, show bracketFactor 0 = 1024 from rfl]
  omega

theorem bracketFactor_le (v : Int) : bracketFactor v ≤ 4096 := by
  rw [bracketFactor, List.getD_eq_getElem?_getD]
  cases h : bracketTable[(v + 6).toNat]? with
  | none => decide
  | some b => exact (by decide : ∀ x ∈ bracketTable, x ≤ 4096) b (List.mem_of_getElem? h)

theorem exposureProduct_lt {base f256 : Nat} (hb : base ≤ 65535) (hf : f256 ≤ 16777215) (v : Int) :
    base * f256 * bracketFactor v < 2 ^ 52 :=
  calc base * f256 * bracketFactor v ≤ 65535 * 16777215 * 4096 :=
        Nat.mul_le_mul (Nat.mul_le_mul hb hf) (bracketFactor_le v)
    _ < 2 ^ 52 := by decide

theorem factorMarks_eq (m : Option FactorMark) :
    factorMarks m =
      { Marks.clear with overdense := decide (m = some .over), underdense := decide (m = some .under) } := by
  rcases m with _ | _ | _ <;> rfl

/-- The step time is the stretched time held in 1 ms to 60 s; the end it is held at is marked, beside the factor's mark
(R89, R90). -/
theorem stepTime_eq (stock : StockEntry) (f : Factor) (v : Int) :
    stepTime stock f v =
      let t2 := stretchedTime stock.knee stock.slope (linearTime stock.base f.f256 (bracketFactor v))
      { time := max 10 (min t2 600000)
        marks := { overdense := decide (f.mark = some .over), underdense := decide (f.mark = some .under),
                   clampLow := decide (t2 < 10), clampHigh := decide (600000 < t2), clampGuard := false } } := by
  unfold stepTime
  rw [factorMarks_eq]
  dsimp only
  generalize stretchedTime stock.knee stock.slope (linearTime stock.base f.f256 (bracketFactor v)) = t2
  by_cases hlow : t2 < 10
  · have hhigh : ¬ 600000 < t2 := by omega
    rw [if_pos hlow, show max 10 (min t2 600000) = 10 by omega]
    simp [hlow, hhigh, Marks.clear]
  by_cases hhigh : 600000 < t2
  · rw [if_neg hlow, if_pos hhigh, show max 10 (min t2 600000) = 600000 by omega]
    simp [hlow, hhigh, Marks.clear]
  · rw [if_neg hlow, if_neg hhigh, show max 10 (min t2 600000) = t2 by omega]
    simp [hlow, hhigh, Marks.clear]

/-- Settles O34: the step time and its marks from the stretched time, and the linear time's two fixed values and its bound. -/
theorem stepTimeAndMarks : Obligations.StepTimeAndMarks := by
  intro stock f v
  dsimp only
  rw [stepTime_eq]
  refine ⟨Nat.le_max_left _ _, Nat.max_le.2 ⟨by decide, Nat.min_le_right _ _⟩, rfl, rfl, fun hb => ?_, fun hf hv => ?_,
    fun hb hf _ _ => exposureProduct_lt hb hf v⟩
  · rw [hb]; exact linearTime_zero _ _
  · rw [hf, hv]; exact linearTime_clear _

end Sys2Proof.Machine
end

section
/-! The set that starts at the end of its slip's metering (O35). -/

namespace Sys2Proof.Machine

/-- The end of a gate phase as the slip's set start reads it: the lighting metered, the meter free (R65, R95). -/
def gateEnded (f : Factor) (x : Current) (s : State) : State :=
  setReadyWith (lighted f x)
    { elapse (untilGateEnd s) s with meter := { meterFree (elapse (untilGateEnd s) s).meter with timeBase := 0 } }

theorem exec_gatePhaseEnd_outside {s : State} {j : MeterJob} {x : Current} (hph : s.meter.phase = .gate)
    (hj : s.meter.job = some j) (hu : j.user = .sequencer) (hset : s.seq.set = none) (hs : s.seq.slip = some x) :
    exec .gatePhaseEnd s =
      .next (finish (stands { go := true } [] (gateEnded (factorFromCounts s.meter.count j.refCount j.cal) x s))) := by
  rw [exec_gatePhaseEnd hph, meteringEnds_outside (c := x) (j := j) (by simpa using hj) hu (by simpa using hs)
    (by simpa using hset), elapse_meterCount]
  rfl

/-- The time that passes and the metering's end change nothing that a set start's checks read (R97). -/
theorem setMayStart_gateEnded {s : State} {x : Current} {i : Fin 4} {roll : Roll} (f : Factor)
    (h : SetMayStart s x.slip i roll) : SetMayStart (gateEnded f x s) x.slip i roll := by
  obtain ⟨hready, hcamera, hstock, hframes, hmap, hceiling⟩ := setMayStart_elapse (n := untilGateEnd s) h
  exact ⟨hready, hcamera, hstock, hframes, hmap, hceiling⟩

theorem fitToOpen_gateEnded {s : State} (f : Factor) (x : Current) (h : FitToOpen s) : FitToOpen (gateEnded f x s) := by
  obtain ⟨hrun, hshut, hdoor, hgate⟩ := fitToOpen_elapse (n := untilGateEnd s) h
  exact ⟨hrun, hshut, hdoor, hgate⟩

/-- The remaining allowance at the end of the gate phase (R120). -/
theorem allowance_gateEnded (f : Factor) (x : Current) (s : State) :
    allowance (gateEnded f x s) = 10 * (guardLimitMs s - (elapse (untilGateEnd s) s).lamp.lit / Config.ms) := by
  unfold guardLimitMs
  rw [← elapse_stand (untilGateEnd s) s]
  rfl

/-- Settles O35: the metering hands its factor over, and the set start evaluated at the end of the event passes. -/
theorem setStarts : Obligations.SetStarts := by
  intro s j x i roll v vs hph hj hu hl hset hs hrun hready hi hr hstock hp hn hframes hmap hceiling hfree hshut hdoor hgate
  dsimp only
  intro ht
  have hmay : SetMayStart s x.slip i roll := ⟨hready, ⟨hi, hr⟩, hstock, by rwa [hp], by rwa [hp], hceiling⟩
  generalize hf : factorFromCounts s.meter.count j.refCount j.cal = f at ht ⊢
  rw [← allowance_gateEnded f x, ← elapse_tables (untilGateEnd s) s] at ht
  rw [← elapse_tables (untilGateEnd s) s] at hp
  rw [exec_gatePhaseEnd_outside hph hj hu hset hs, hf,
    finish_setStart (u := gateEnded f x s) (c := lighted f x) rfl rfl rfl rfl rfl ((elapse_lampState _ _).trans hl)
      (fitToOpen_gateEnded f x ⟨hrun, hshut, hdoor, hgate⟩) (setMayStart_gateEnded f hmay) hp hn
      (by simpa [gateEnded, setReadyWith] using hfree) ht]
  simp only [setBegun, gateEnded, setReadyWith, lighted, elapse_tables, elapse_money, elapse_records, elapse_stand]
  rfl

end Sys2Proof.Machine
end
